-- ==== Sys2Proof/Word.lean ====
section
/-! DEFINITION. The value types of the block: unsigned integers of a fixed width (spec 00_scope.md R5, R7, R8). -/

namespace Sys2Proof

/-- A wide word: XLEN = 256 bits (00_scope.md R5). -/
abbrev Wide := BitVec 256

/-- A half-word: 128 bits (00_scope.md R8). -/
abbrev HalfWord := BitVec 128

/-- A quarter-word: 64 bits (00_scope.md R8). -/
abbrev QuarterWord := BitVec 64

/-- A limb, and the width of a scalar register: 32 bits (00_scope.md R5, R8). -/
abbrev Limb := BitVec 32

/-- A half-limb: 16 bits (00_scope.md R8). -/
abbrev HalfLimb := BitVec 16

/-- A byte: 8 bits (00_scope.md R8). -/
abbrev Byte := BitVec 8

end Sys2Proof
end

