-- ==== Sys2Proof/Config.lean ====
section
/-! DEFINITION. The fixed constants of the block (spec 00_scope.md R5) and the parameters the source leaves
open (00_scope.md R6, 92_eei_decisions.md D6, D7, D8). -/

namespace Sys2Proof

/-- Entries each of the two stacks can hold (00_scope.md R5, LOOP_STACK_DEPTH and CALL_STACK_DEPTH). -/
abbrev stackDepth : Nat := 16

/-- 256-bit cells in DMEM (00_scope.md R5, DMEM_DEPTH). -/
abbrev dmemDepth : Nat := 128

/-- Byte addresses of DMEM: 128 cells of 32 bytes (20_memory.md R52). -/
abbrev dmemBytes : Nat := 4096

/-- The greatest number of instruction objects in IMEM (00_scope.md R5, IMEM_CAPACITY). -/
abbrev imemCapacity : Nat := 1024

/-- Bytes in a wide word, the step of GPR.INCWB (00_scope.md R5, WORD_BYTES). -/
abbrev wordBytes : Nat := 32

/-- The constant that `rnd` holds at every time: 64 hexadecimal digits 9 (10_state.md R23). -/
def rndSentinel : Wide := 0x9999999999999999999999999999999999999999999999999999999999999999#256

/-- What a read of a never-written register portion or cell does (60_exceptions.md R309, D6). -/
inductive UninitReadPolicy where
  | warn
  | strict
deriving DecidableEq, Repr

/-- What a write to `rnd` does (41_register_file.md R132, D7). -/
inductive RndWritePolicy where
  | fault
  | ignore
deriving DecidableEq, Repr

/-- The parameters the source leaves open (00_scope.md R6, second block). A statement about every state
is a statement about every value of them, since State holds the record. -/
structure Config where
  csrFlags : Nat
  csrModBase : Nat
  csrRnd : Nat
  wsrMod : Nat
  wsrRnd : Nat
  uninitRead : UninitReadPolicy
  rndWrite : RndWritePolicy
deriving DecidableEq, Repr

/-- "The ten CSR numbers must be pairwise distinct and the two WSR indices must differ" (00_scope.md R6). -/
def Config.wf (c : Config) : Bool :=
  !(decide (c.csrModBase ≤ c.csrFlags) && decide (c.csrFlags < c.csrModBase + 8)) &&
  !(decide (c.csrModBase ≤ c.csrRnd) && decide (c.csrRnd < c.csrModBase + 8)) &&
  decide (c.csrFlags ≠ c.csrRnd) && decide (c.wsrMod ≠ c.wsrRnd)

/-- The values of State.reset. The five numbers are PRESUMED (the spec suggests them from general knowledge
and leaves them open, log 13); the two policies are the defaults of 00_scope.md R6 (log 14). -/
def Config.default : Config where
  csrFlags := 0x7C0
  csrModBase := 0x7D0
  csrRnd := 0xFC0
  wsrMod := 0
  wsrRnd := 1
  uninitRead := .warn
  rndWrite := .fault

end Sys2Proof
end

