-- ==== Sys2Proof/Syntax.lean ====
section
/-! DEFINITION. The block operations with their operands (spec 30_encoding.md R71 to R75), the request record,
and the instruction object as plain data (00_scope.md R12, log 7). -/

namespace Sys2Proof

/-- `regid` (30_encoding.md R73): `general n` is the code (0, n), `special n` the code (1, n). The source
range-checks both, so each is a natural number (R72): an index of 32 or more and a name code of 6 or more raise the
errors of 41_register_file.md R130, whatever their size. -/
inductive RegId where
  | general (n : Nat)
  | special (n : Nat)
deriving DecidableEq, Repr

/-- `gran` (30_encoding.md R73). The limb index is a natural number, since RF.SET checks it (R131).
`unassigned` is the code t = 3, which raises InvalidOperand (R305). -/
inductive Gran where
  | full
  | limb (i : Nat)
  | halfLimb (i : Nat) (u : Bool)
  | unassigned
deriving DecidableEq, Repr

/-- `fbcond` (30_encoding.md R73); the depth is a u5 field. `unassigned` is the code t = 3 (R305). -/
inductive FbCond where
  | none
  | callDepth (d : Nat)
  | loopDepth (d : Nat)
  | unassigned
deriving DecidableEq, Repr

/-- A request record (30_encoding.md R71): the operation selector, a u8, and the values of the operand
fields in the order of the operation's format (R72, R73; log 11). -/
structure Request where
  opSel : BitVec 8
  fields : List Nat
deriving DecidableEq, Repr

/-- A text an instruction object can look at (00_scope.md R12; log 7, log 8). `mnemonic k` and `asmStr k` are those of
the fetched object that result k is. -/
inductive Text where
  | lit (s : String)
  | mnemonic (k : Nat)
  | asmStr (k : Nat)
  | append (a b : Text)
deriving DecidableEq, Repr

/-- The trace string an instruction object returns (00_scope.md R12; log 7). `nested k` is the trace string of the nested
run that result k is, which is passed on and which no expression reads: the trace is not "visible to a program"
(60_exceptions.md R324; log 25). -/
inductive Trace where
  | text (t : Text)
  | nested (k : Nat)
  | append (a b : Trace)
deriving DecidableEq, Repr

/-- An operand expression of an instruction object: a value computed from the results of the operations
before it (00_scope.md R12, "each seeing the results of the ones before"; log 7). `res k` is the k-th
result field bound so far, a number. `eq`, `lt` and `same` give 1 or 0; `monus` is 0 below 0. -/
inductive Expr where
  | lit (n : Nat)
  | res (k : Nat)
  | add (a b : Expr)
  | monus (a b : Expr)
  | mul (a b : Expr)
  | shl (a b : Expr)
  | shr (a b : Expr)
  | land (a b : Expr)
  | lor (a b : Expr)
  | xor (a b : Expr)
  | eq (a b : Expr)
  | lt (a b : Expr)
  | ite (c a b : Expr)
  | same (a b : Text)
deriving DecidableEq, Repr

/-- The `next_pc` an instruction object returns: none or an integer (00_scope.md R12; log 7). -/
inductive NextPc where
  | none
  | target (e : Expr)
  | negative (e : Expr)
deriving DecidableEq, Repr

/-- The `exec` of an instruction object: a finite interactive program (00_scope.md R12; log 7). `call`
issues the request record (opSel, values of args) and binds its result fields; `branch` goes on with
`t` when the value of `c` is not 0, else with `e`; `run k` runs the `exec` of the fetched object that result k is and
binds its trace string and target (log 25); `done` returns the trace string and the next pc. -/
inductive Prog where
  | done (trace : Trace) (next : NextPc)
  | call (opSel : BitVec 8) (args : List Expr) (rest : Prog)
  | branch (c : Expr) (t e : Prog)
  | run (k : Nat) (rest : Prog)
deriving DecidableEq, Repr

/-- An instruction object, an element of IMEM (00_scope.md R12). Its finite interactive program is `exec` with the
programs of fetched objects that it runs in the place of each `run`, to a depth of at most `nesting` (log 25). -/
structure InstrObj where
  mnemonic : String
  cycles : Nat
  asmStr : String
  exec : Prog
  nesting : Nat
deriving DecidableEq, Repr

/-- The block operations: one constructor per row of spec/opcode_table.json (30_encoding.md R75). A `nat`
operand and a wide operand of family 0 are natural numbers, range-checked by the operation (R72, R100), and so is a flag id,
whose operation names the error of an unknown one (43_flags.md R181). -/
inductive Instr where
  -- family 0, wide-word ALU
  | wwAdd (a b : Nat) (c : Bool)
  | wwSub (a b : Nat) (c : Bool)
  | wwCmp (a b : Nat)
  | wwAnd (a b : Nat)
  | wwOr (a b : Nat)
  | wwXor (a b : Nat)
  | wwNot (a : Nat)
  | wwShl (a n : Nat)
  | wwShr (a n : Nat)
  | wwGetLimb (a i : Nat)
  | wwSetLimb (a i x : Nat)
  | wwSetHLimb (a i : Nat) (u : Bool) (x : Nat)
  | wwSetHWord (a h x : Nat)
  -- family 1, wide register file, CSR and WSR views
  | rfGet (id : RegId)
  | rfSet (id : RegId) (v : Nat) (g : Gran)
  | rfGetLimb (id : RegId) (i : Nat)
  | rfSetLimb (id : RegId) (i x : Nat)
  | rfGetHLimb (id : RegId) (i : Nat) (u : Bool)
  | rfSetHLimb (id : RegId) (i : Nat) (u : Bool) (x : Nat)
  | rfGetHWord (id : RegId) (h : Nat)
  | rfSetHWord (id : RegId) (h x : Nat)
  | rfGetQWord (id : RegId) (q : Nat)
  | rfSetQWord (id : RegId) (q x : Nat)
  | csrGet (n : Nat)
  | csrSet (n x : Nat)
  | wsrGet (n : Nat)
  | wsrSet (n v : Nat)
  -- family 2, scalar GPR file
  | gprGet (i : Nat)
  | gprSet (i x : Nat)
  | gprInc (i : Nat)
  | gprIncWb (i : Nat)
  -- family 3, flags
  | flagGet (f : Nat)
  | flagSet (f : Nat) (b : Bool)
  | flagGetP
  | flagSetP (p : Nat)
  | flagSetW (v : Nat)
  | flagSetXW (v : Nat)
  | flagSetZml (v : Nat)
  | flagSetXZml (v : Nat)
  | flagSetCm (v : Nat)
  | flagSetXCm (v : Nat)
  | flagSetL (v : Nat)
  | flagSetXL (v : Nat)
  -- family 4, memories
  | dmemGet (a : Nat)
  | dmemSet (a v : Nat)
  | dmemGetLimb (b : Nat)
  | dmemSetLimb (b x : Nat)
  | imemFetch (a : Nat)
  -- family 5, stacks
  | loopPush (count endAddr start : Limb)
  | loopDec
  | loopPop
  | loopTopEnd
  | loopTopStart
  | callPush (addr : Limb)
  | callPop
  -- family 6, debug triggers
  | bpToggle (addr passes : Nat)
  | bpEval (addr : Nat)
  | fbArm (cond : FbCond)
  | fbEval
  -- family 7, step engine and reset
  | step
  | finish
  | reset
  | clearRegs
deriving DecidableEq, Repr

end Sys2Proof
end

