-- ==== Sys2Proof/WellFormed.lean ====
section
/-! DEFINITION. Which terms of the operand types a request record can carry (spec 30_encoding.md R72, R73),
and which instruction objects issue only what an instruction may issue (00_scope.md R12, 60_exceptions.md R320). -/

namespace Sys2Proof

/-- The depth of a force-break condition is a u5 (30_encoding.md R73). -/
def FbCond.wf : FbCond → Bool
  | .none => true
  | .callDepth d => decide (d < 32)
  | .loopDepth d => decide (d < 32)
  | .unassigned => true

/-- An operation is well formed when a request record can carry its operands (30_encoding.md R72, R73):
a force-break depth is a u5; every other operand is a `nat`, a number whose operation names the error of one out of
range, or has its width by type (log 10). -/
def Instr.wf : Instr → Bool
  | .wwAdd _ _ _ | .wwSub _ _ _ | .wwCmp _ _ | .wwAnd _ _ | .wwOr _ _ | .wwXor _ _ | .wwNot _ => true
  | .wwShl _ _ | .wwShr _ _ | .wwGetLimb _ _ | .wwSetLimb _ _ _ | .wwSetHLimb _ _ _ _ => true
  | .wwSetHWord _ _ _ => true
  | .rfGet _ | .rfSet _ _ _ | .rfGetLimb _ _ | .rfSetLimb _ _ _ | .rfGetHLimb _ _ _ => true
  | .rfSetHLimb _ _ _ _ | .rfGetHWord _ _ | .rfSetHWord _ _ _ | .rfGetQWord _ _ => true
  | .rfSetQWord _ _ _ => true
  | .csrGet _ | .csrSet _ _ | .wsrGet _ | .wsrSet _ _ => true
  | .gprGet _ | .gprSet _ _ | .gprInc _ | .gprIncWb _ => true
  | .flagGet _ | .flagSet _ _ => true
  | .flagGetP | .flagSetP _ | .flagSetW _ | .flagSetXW _ | .flagSetZml _ | .flagSetXZml _ => true
  | .flagSetCm _ | .flagSetXCm _ | .flagSetL _ | .flagSetXL _ => true
  | .dmemGet _ | .dmemSet _ _ | .dmemGetLimb _ | .dmemSetLimb _ _ | .imemFetch _ => true
  | .loopPush _ _ _ | .loopDec | .loopPop | .loopTopEnd | .loopTopStart | .callPush _ | .callPop => true
  | .bpToggle _ _ | .bpEval _ | .fbEval => true
  | .fbArm c => c.wf
  | .step | .finish | .reset | .clearRegs => true

/-- The operations an instruction object may issue: families 0 to 5 and FINISH (00_scope.md R12,
60_exceptions.md R320). -/
def Instr.issuable : Instr → Bool
  | .bpToggle _ _ | .bpEval _ | .fbArm _ | .fbEval | .step | .reset | .clearRegs => false
  | .finish => true
  | .wwAdd _ _ _ | .wwSub _ _ _ | .wwCmp _ _ | .wwAnd _ _ | .wwOr _ _ | .wwXor _ _ | .wwNot _ => true
  | .wwShl _ _ | .wwShr _ _ | .wwGetLimb _ _ | .wwSetLimb _ _ _ | .wwSetHLimb _ _ _ _ => true
  | .wwSetHWord _ _ _ => true
  | .rfGet _ | .rfSet _ _ _ | .rfGetLimb _ _ | .rfSetLimb _ _ _ | .rfGetHLimb _ _ _ => true
  | .rfSetHLimb _ _ _ _ | .rfGetHWord _ _ | .rfSetHWord _ _ _ | .rfGetQWord _ _ => true
  | .rfSetQWord _ _ _ => true
  | .csrGet _ | .csrSet _ _ | .wsrGet _ | .wsrSet _ _ => true
  | .gprGet _ | .gprSet _ _ | .gprInc _ | .gprIncWb _ => true
  | .flagGet _ | .flagSet _ _ => true
  | .flagGetP | .flagSetP _ | .flagSetW _ | .flagSetXW _ | .flagSetZml _ | .flagSetXZml _ => true
  | .flagSetCm _ | .flagSetXCm _ | .flagSetL _ | .flagSetXL _ => true
  | .dmemGet _ | .dmemSet _ _ | .dmemGetLimb _ | .dmemSetLimb _ _ | .imemFetch _ => true
  | .loopPush _ _ _ | .loopDec | .loopPop | .loopTopEnd | .loopTopStart | .callPush _ | .callPop => true

/-- A selector an instruction object may use: families 0 to 5, and FINISH at 0x71 (60_exceptions.md R320). -/
def selectorIssuable (op : BitVec 8) : Bool :=
  decide (op.toNat < 0x60) || decide (op.toNat = 0x71)

/-- No request of the program names an operation an instruction must not issue (00_scope.md R12,
70_reset_and_hazards.md R350, R351). -/
def Prog.wf : Prog → Bool
  | .done _ _ => true
  | .call op _ rest => selectorIssuable op && rest.wf
  | .branch _ t e => t.wf && e.wf
  | .run _ rest => rest.wf

/-- An instruction object is well formed when its program is (00_scope.md R12). -/
def InstrObj.wf (o : InstrObj) : Bool := o.exec.wf

end Sys2Proof
end

