-- ==== Sys2Proof/Decode.lean ====
section
/-! DEFINITION. From a request record to an operation and back (spec 30_encoding.md R71 to R76). The decoder is
total: it takes any selector byte and any list of field values and rejects by name (log 10, log 11, log 12). -/

namespace Sys2Proof

/-- Why a record spells no operation. `unassignedSelector`: the selector is none of R75 (R76). `wrongFields`: the
record has not the fields of its operation's format (R72). `fieldTooWide`: a field of a fixed width is given a
value "not representable in hardware" (R72). -/
inductive DecodeError where
  | unassignedSelector (op : Nat)
  | wrongFields (op : Nat)
  | fieldTooWide (value : Nat)
deriving DecidableEq, Repr

/-- What the decoder answers. -/
abbrev Decoded := Except DecodeError Instr

/-- A u1 field (30_encoding.md R72): 0 or 1. -/
def u1Field (v : Nat) (k : Bool → Decoded) : Decoded :=
  match v with
  | 0 => k false
  | 1 => k true
  | v => .error (.fieldTooWide v)

/-- A field of a fixed width w: a value of 2^w or more is not representable (30_encoding.md R72). -/
def fixedField (w v : Nat) (k : Nat → Decoded) : Decoded :=
  if v < 2 ^ w then k v else .error (.fieldTooWide v)

/-- A u32 field (30_encoding.md R72, formats LP and CP). -/
def u32Field (v : Nat) (k : Limb → Decoded) : Decoded :=
  fixedField 32 v fun x => k (BitVec.ofNat 32 x)

/-- A `regid` field pair (k: u1, n) (30_encoding.md R73). The source range-checks n, so the model takes it as `nat`
(R72) and 41_register_file.md R130 names its error. -/
def regField (k n : Nat) (f : RegId → Decoded) : Decoded :=
  u1Field k fun special => f (if special then .special n else .general n)

/-- A `gran` field triple (t: u2, i, u: u1) (30_encoding.md R73); i and u are not looked at where the code
does not use them. -/
def granField (t i u : Nat) (f : Gran → Decoded) : Decoded :=
  match t with
  | 0 => f .full
  | 1 => f (.limb i)
  | 2 => u1Field u fun u => f (.halfLimb i u)
  | 3 => f .unassigned
  | t => .error (.fieldTooWide t)

/-- A `fbcond` field pair (t: u2, d: u5) (30_encoding.md R73). -/
def condField (t d : Nat) (f : FbCond → Decoded) : Decoded :=
  match t with
  | 0 => f .none
  | 1 => fixedField 5 d fun d => f (.callDepth d)
  | 2 => fixedField 5 d fun d => f (.loopDepth d)
  | 3 => f .unassigned
  | t => .error (.fieldTooWide t)

/-! One reader of the fields per shape of format (30_encoding.md R72); `op` only names the record in a rejection. -/

/-- Format W2C. -/
def readW2C (op : Nat) (mk : Nat → Nat → Bool → Instr) : List Nat → Decoded
  | [a, b, c] => u1Field c fun c => .ok (mk a b c)
  | _ => .error (.wrongFields op)

/-- Formats without operands: FPG, L0B, L0A, FE, ST, N0. -/
def readNone (op : Nat) (i : Instr) : List Nat → Decoded
  | [] => .ok i
  | _ => .error (.wrongFields op)

/-- Formats of one `nat`: W1, CG, SG, XG, XI, FG, FPS, FW, MG, MLG, IF, BE. -/
def readNat (op : Nat) (mk : Nat → Instr) : List Nat → Decoded
  | [a] => .ok (mk a)
  | _ => .error (.wrongFields op)

/-- Formats of two `nat`s: W2, W2O, WSH, WLG, CS, SS, XS, MS, MLS, BT. -/
def readNat2 (op : Nat) (mk : Nat → Nat → Instr) : List Nat → Decoded
  | [a, b] => .ok (mk a b)
  | _ => .error (.wrongFields op)

/-- Formats of three `nat`s: WLS, WWS. -/
def readNat3 (op : Nat) (mk : Nat → Nat → Nat → Instr) : List Nat → Decoded
  | [a, b, c] => .ok (mk a b c)
  | _ => .error (.wrongFields op)

/-- Format WHS. -/
def readWHS (op : Nat) (mk : Nat → Nat → Bool → Nat → Instr) : List Nat → Decoded
  | [a, i, u, x] => u1Field u fun u => .ok (mk a i u x)
  | _ => .error (.wrongFields op)

/-- Format RG. -/
def readRG (op : Nat) (mk : RegId → Instr) : List Nat → Decoded
  | [k, n] => regField k n fun id => .ok (mk id)
  | _ => .error (.wrongFields op)

/-- Format RS. "An absent granularity is `Full`" (30_encoding.md R73). -/
def readRS (op : Nat) (mk : RegId → Nat → Gran → Instr) : List Nat → Decoded
  | [k, n, v] => regField k n fun id => .ok (mk id v .full)
  | [k, n, v, t, i, u] => regField k n fun id => granField t i u fun g => .ok (mk id v g)
  | _ => .error (.wrongFields op)

/-- Formats RLG, RWG, RQG. -/
def readRLG (op : Nat) (mk : RegId → Nat → Instr) : List Nat → Decoded
  | [k, n, i] => regField k n fun id => .ok (mk id i)
  | _ => .error (.wrongFields op)

/-- Formats RLS, RWS, RQS. -/
def readRLS (op : Nat) (mk : RegId → Nat → Nat → Instr) : List Nat → Decoded
  | [k, n, i, x] => regField k n fun id => .ok (mk id i x)
  | _ => .error (.wrongFields op)

/-- Format RHG. -/
def readRHG (op : Nat) (mk : RegId → Nat → Bool → Instr) : List Nat → Decoded
  | [k, n, i, u] => regField k n fun id => u1Field u fun u => .ok (mk id i u)
  | _ => .error (.wrongFields op)

/-- Format RHS. -/
def readRHS (op : Nat) (mk : RegId → Nat → Bool → Nat → Instr) : List Nat → Decoded
  | [k, n, i, u, x] => regField k n fun id => u1Field u fun u => .ok (mk id i u x)
  | _ => .error (.wrongFields op)

/-- Format FS. A `flagid` is taken as `nat`, since 43_flags.md R181 and R182 name the error of every id above 7. -/
def readFS (op : Nat) (mk : Nat → Bool → Instr) : List Nat → Decoded
  | [f, b] => u1Field b fun b => .ok (mk f b)
  | _ => .error (.wrongFields op)

/-- Format LP. -/
def readLP (op : Nat) (mk : Limb → Limb → Limb → Instr) : List Nat → Decoded
  | [c, e, s] => u32Field c fun c => u32Field e fun e => u32Field s fun s => .ok (mk c e s)
  | _ => .error (.wrongFields op)

/-- Format CP. -/
def readCP (op : Nat) (mk : Limb → Instr) : List Nat → Decoded
  | [a] => u32Field a fun a => .ok (mk a)
  | _ => .error (.wrongFields op)

/-- Format FA. -/
def readFA (op : Nat) (mk : FbCond → Instr) : List Nat → Decoded
  | [t, d] => condField t d fun c => .ok (mk c)
  | _ => .error (.wrongFields op)

/-- The selector map (30_encoding.md R75); every other selector is unassigned (R76). -/
def decodeFields (op : Nat) (fields : List Nat) : Decoded :=
  match op with
  | 0x00 => readW2C op .wwAdd fields
  | 0x01 => readW2C op .wwSub fields
  | 0x02 => readNat2 op .wwCmp fields
  | 0x03 => readNat2 op .wwAnd fields
  | 0x04 => readNat2 op .wwOr fields
  | 0x05 => readNat2 op .wwXor fields
  | 0x06 => readNat op .wwNot fields
  | 0x07 => readNat2 op .wwShl fields
  | 0x08 => readNat2 op .wwShr fields
  | 0x09 => readNat2 op .wwGetLimb fields
  | 0x0A => readNat3 op .wwSetLimb fields
  | 0x0B => readWHS op .wwSetHLimb fields
  | 0x0C => readNat3 op .wwSetHWord fields
  | 0x10 => readRG op .rfGet fields
  | 0x11 => readRS op .rfSet fields
  | 0x12 => readRLG op .rfGetLimb fields
  | 0x13 => readRLS op .rfSetLimb fields
  | 0x14 => readRHG op .rfGetHLimb fields
  | 0x15 => readRHS op .rfSetHLimb fields
  | 0x16 => readRLG op .rfGetHWord fields
  | 0x17 => readRLS op .rfSetHWord fields
  | 0x18 => readRLG op .rfGetQWord fields
  | 0x19 => readRLS op .rfSetQWord fields
  | 0x1A => readNat op .csrGet fields
  | 0x1B => readNat2 op .csrSet fields
  | 0x1C => readNat op .wsrGet fields
  | 0x1D => readNat2 op .wsrSet fields
  | 0x20 => readNat op .gprGet fields
  | 0x21 => readNat2 op .gprSet fields
  | 0x22 => readNat op .gprInc fields
  | 0x23 => readNat op .gprIncWb fields
  | 0x30 => readNat op .flagGet fields
  | 0x31 => readFS op .flagSet fields
  | 0x32 => readNone op .flagGetP fields
  | 0x33 => readNat op .flagSetP fields
  | 0x34 => readNat op .flagSetW fields
  | 0x35 => readNat op .flagSetXW fields
  | 0x36 => readNat op .flagSetZml fields
  | 0x37 => readNat op .flagSetXZml fields
  | 0x38 => readNat op .flagSetCm fields
  | 0x39 => readNat op .flagSetXCm fields
  | 0x3A => readNat op .flagSetL fields
  | 0x3B => readNat op .flagSetXL fields
  | 0x40 => readNat op .dmemGet fields
  | 0x41 => readNat2 op .dmemSet fields
  | 0x42 => readNat op .dmemGetLimb fields
  | 0x43 => readNat2 op .dmemSetLimb fields
  | 0x44 => readNat op .imemFetch fields
  | 0x50 => readLP op .loopPush fields
  | 0x51 => readNone op .loopDec fields
  | 0x52 => readNone op .loopPop fields
  | 0x53 => readNone op .loopTopEnd fields
  | 0x54 => readNone op .loopTopStart fields
  | 0x55 => readCP op .callPush fields
  | 0x56 => readNone op .callPop fields
  | 0x60 => readNat2 op .bpToggle fields
  | 0x61 => readNat op .bpEval fields
  | 0x62 => readFA op .fbArm fields
  | 0x63 => readNone op .fbEval fields
  | 0x70 => readNone op .step fields
  | 0x71 => readNone op .finish fields
  | 0x72 => readNone op .reset fields
  | 0x73 => readNone op .clearRegs fields
  | op => .error (.unassignedSelector op)

/-- The decoder of a request record (30_encoding.md R71). -/
def decode (r : Request) : Decoded := decodeFields r.opSel.toNat r.fields

/-- A u1 as a field value. -/
def bitValue (b : Bool) : Nat := if b then 1 else 0

/-- The fields of a `regid` (30_encoding.md R73). -/
def RegId.fields : RegId → List Nat
  | .general n => [0, n]
  | .special n => [1, n]

/-- The fields of a `gran` (30_encoding.md R73). -/
def Gran.fields : Gran → List Nat
  | .full => [0, 0, 0]
  | .limb i => [1, i, 0]
  | .halfLimb i u => [2, i, bitValue u]
  | .unassigned => [3, 0, 0]

/-- The fields of an `fbcond` (30_encoding.md R73). -/
def FbCond.fields : FbCond → List Nat
  | .none => [0, 0]
  | .callDepth d => [1, d]
  | .loopDepth d => [2, d]
  | .unassigned => [3, 0]

/-- The request record of an operation (30_encoding.md R72, R73, R75). -/
def encode : Instr → Request
  | .wwAdd a b c => ⟨0x00, [a, b, bitValue c]⟩
  | .wwSub a b c => ⟨0x01, [a, b, bitValue c]⟩
  | .wwCmp a b => ⟨0x02, [a, b]⟩
  | .wwAnd a b => ⟨0x03, [a, b]⟩
  | .wwOr a b => ⟨0x04, [a, b]⟩
  | .wwXor a b => ⟨0x05, [a, b]⟩
  | .wwNot a => ⟨0x06, [a]⟩
  | .wwShl a n => ⟨0x07, [a, n]⟩
  | .wwShr a n => ⟨0x08, [a, n]⟩
  | .wwGetLimb a i => ⟨0x09, [a, i]⟩
  | .wwSetLimb a i x => ⟨0x0A, [a, i, x]⟩
  | .wwSetHLimb a i u x => ⟨0x0B, [a, i, bitValue u, x]⟩
  | .wwSetHWord a h x => ⟨0x0C, [a, h, x]⟩
  | .rfGet id => ⟨0x10, id.fields⟩
  | .rfSet id v g => ⟨0x11, id.fields ++ v :: g.fields⟩
  | .rfGetLimb id i => ⟨0x12, id.fields ++ [i]⟩
  | .rfSetLimb id i x => ⟨0x13, id.fields ++ [i, x]⟩
  | .rfGetHLimb id i u => ⟨0x14, id.fields ++ [i, bitValue u]⟩
  | .rfSetHLimb id i u x => ⟨0x15, id.fields ++ [i, bitValue u, x]⟩
  | .rfGetHWord id h => ⟨0x16, id.fields ++ [h]⟩
  | .rfSetHWord id h x => ⟨0x17, id.fields ++ [h, x]⟩
  | .rfGetQWord id q => ⟨0x18, id.fields ++ [q]⟩
  | .rfSetQWord id q x => ⟨0x19, id.fields ++ [q, x]⟩
  | .csrGet n => ⟨0x1A, [n]⟩
  | .csrSet n x => ⟨0x1B, [n, x]⟩
  | .wsrGet n => ⟨0x1C, [n]⟩
  | .wsrSet n v => ⟨0x1D, [n, v]⟩
  | .gprGet i => ⟨0x20, [i]⟩
  | .gprSet i x => ⟨0x21, [i, x]⟩
  | .gprInc i => ⟨0x22, [i]⟩
  | .gprIncWb i => ⟨0x23, [i]⟩
  | .flagGet f => ⟨0x30, [f]⟩
  | .flagSet f b => ⟨0x31, [f, bitValue b]⟩
  | .flagGetP => ⟨0x32, []⟩
  | .flagSetP p => ⟨0x33, [p]⟩
  | .flagSetW v => ⟨0x34, [v]⟩
  | .flagSetXW v => ⟨0x35, [v]⟩
  | .flagSetZml v => ⟨0x36, [v]⟩
  | .flagSetXZml v => ⟨0x37, [v]⟩
  | .flagSetCm v => ⟨0x38, [v]⟩
  | .flagSetXCm v => ⟨0x39, [v]⟩
  | .flagSetL v => ⟨0x3A, [v]⟩
  | .flagSetXL v => ⟨0x3B, [v]⟩
  | .dmemGet a => ⟨0x40, [a]⟩
  | .dmemSet a v => ⟨0x41, [a, v]⟩
  | .dmemGetLimb b => ⟨0x42, [b]⟩
  | .dmemSetLimb b x => ⟨0x43, [b, x]⟩
  | .imemFetch a => ⟨0x44, [a]⟩
  | .loopPush c e s => ⟨0x50, [c.toNat, e.toNat, s.toNat]⟩
  | .loopDec => ⟨0x51, []⟩
  | .loopPop => ⟨0x52, []⟩
  | .loopTopEnd => ⟨0x53, []⟩
  | .loopTopStart => ⟨0x54, []⟩
  | .callPush a => ⟨0x55, [a.toNat]⟩
  | .callPop => ⟨0x56, []⟩
  | .bpToggle a p => ⟨0x60, [a, p]⟩
  | .bpEval a => ⟨0x61, [a]⟩
  | .fbArm c => ⟨0x62, c.fields⟩
  | .fbEval => ⟨0x63, []⟩
  | .step => ⟨0x70, []⟩
  | .finish => ⟨0x71, []⟩
  | .reset => ⟨0x72, []⟩
  | .clearRegs => ⟨0x73, []⟩

/-- How many field values the record of an assigned selector holds (30_encoding.md R72, R73, R75), with the
granularity of RF.SET written out; an unassigned selector has none. -/
def fieldCount (op : Nat) : Nat :=
  match op with
  | 0x00 | 0x01 => 3
  | 0x02 | 0x03 | 0x04 | 0x05 => 2
  | 0x06 => 1
  | 0x07 | 0x08 | 0x09 => 2
  | 0x0A => 3
  | 0x0B => 4
  | 0x0C => 3
  | 0x10 => 2
  | 0x11 => 6
  | 0x12 | 0x16 | 0x18 => 3
  | 0x13 | 0x17 | 0x19 | 0x14 => 4
  | 0x15 => 5
  | 0x1A | 0x1C => 1
  | 0x1B | 0x1D => 2
  | 0x20 | 0x22 | 0x23 => 1
  | 0x21 => 2
  | 0x30 => 1
  | 0x31 => 2
  | 0x33 | 0x34 | 0x35 | 0x36 | 0x37 | 0x38 | 0x39 | 0x3A | 0x3B => 1
  | 0x40 | 0x42 | 0x44 => 1
  | 0x41 | 0x43 => 2
  | 0x50 => 3
  | 0x55 => 1
  | 0x60 => 2
  | 0x61 => 1
  | 0x62 => 2
  | _ => 0

/-- The record whose selector is the table's word w and whose every operand field is 0 (log 11): the table
gives a row 8 bits, the selector. -/
def tableRequest (w : Nat) : Request :=
  ⟨BitVec.ofNat 8 w, List.replicate (fieldCount (w % 256)) 0⟩

/-- What the decoder reads from a row of spec/opcode_table.json: `nbits` is the row's width (8) and `w` the
selector; no bit above the selector may be set, since the operand fields have no bits of the table's number. -/
def decodeTableWord (_nbits w : Nat) : Option Instr :=
  if w < 256 then (decode (tableRequest w)).toOption else none

end Sys2Proof
end

