-- ==== Sys2Proof/Machine/State.lean ====
section
/-! DEFINITION. The state of the block (spec 10_state.md R20 to R43), the response of a request (30_encoding.md
R71), the errors and diagnostics (60_exceptions.md R300, R308), and the state after reset (10_state.md R41). -/

namespace Sys2Proof.Machine

/-- The six special wide registers (10_state.md R22, R23). -/
inductive SpecialReg where
  | mod | dmp | rfp | lc | rnd | acc
deriving DecidableEq, Repr

/-- The stored values of the special registers (10_state.md R22, R23). x8 to x31 are limbs of rfp, dmp and lc
and have no storage of their own (R25). -/
structure Special where
  mod : Wide
  dmp : Wide
  rfp : Wide
  lc : Wide
  rnd : Wide
  acc : Wide
deriving DecidableEq, Repr

/-- The eight flags in two groups (10_state.md R29). -/
structure Flags where
  c : Bool
  l : Bool
  m : Bool
  z : Bool
  xc : Bool
  xl : Bool
  xm : Bool
  xz : Bool
deriving DecidableEq, Repr

/-- DMEM's contents: (byte address, byte) pairs, addresses strictly rising, no byte 0 listed (an unlisted byte
reads 0, the "zero-padded" reset contents of 10_state.md R41; log 16). -/
abbrev Memory := List Host.Cell

/-- A loop stack entry (remaining count, end address, start address), each a u32 (10_state.md R35). -/
structure LoopEntry where
  count : Limb
  endAddr : Limb
  start : Limb
deriving DecidableEq, Repr

/-- A breakpoint table entry (required pass count, current pass counter) (10_state.md R37). -/
structure BpEntry where
  required : Nat
  counter : Nat
deriving DecidableEq, Repr

/-- The force-break 5-tuple (10_state.md R38). -/
structure ForceBreak where
  armed : Bool
  useCall : Bool
  callTarget : Nat
  useLoop : Bool
  loopTarget : Nat
deriving DecidableEq, Repr

/-- Which stack an error comes from (60_exceptions.md R300, R304). -/
inductive StackName where
  | call
  | loop
deriving DecidableEq, Repr

/-- The info of an InvalidOperand error, "the name or number" (60_exceptions.md R300; log 22). -/
inductive OperandInfo where
  | number (n : Nat)
  | rnd
  | label (name : String)
deriving DecidableEq, Repr

/-- The two diagnostics (60_exceptions.md R308). The slots of a register are listed in rising order (log 18). -/
inductive Diag where
  | uninitReg (n : Nat) (slots : List Nat)
  | uninitCell (a : Nat)
deriving DecidableEq, Repr

/-- The error kinds with their info (60_exceptions.md R300), and UninitRead, which exists only under the strict
policy (R309). An error is taken by `Machine.raise`, a next state whose response carries it (R71, R310; log 3). -/
inductive Err where
  | rangeError (v : Nat)
  | indexError (i : Nat)
  | stackOverflow (which : StackName)
  | stackUnderrun (which : StackName)
  | invalidOperand (info : OperandInfo)
  | invalidJump (target : Int)
  | uninitRead (d : Diag)
deriving DecidableEq, Repr

/-- The result fields of a response (30_encoding.md R72), one constructor per shape. `none`: the format has no
result, or the request raised an error. -/
inductive Result where
  | none
  | wideCarry (r : Wide) (cout : Bool)
  | wide (v : Wide)
  | ord (o : Ordering)
  | limb (x : Limb)
  | halfLimb (x : HalfLimb)
  | quarterWord (x : QuarterWord)
  | halfWord (x : HalfWord)
  | bit (b : Bool)
  | packed (p : Byte)
  | obj (o : InstrObj)
  | stepDone (cont : Bool) (trace : String) (cycles : Nat) (bpHit : Bool)
deriving DecidableEq, Repr

/-- The response of a request (30_encoding.md R71). -/
structure Response where
  result : Result
  err : Option Err
  diags : List Diag
deriving DecidableEq, Repr

/-- The construction inputs (00_scope.md R6, first block). No operation writes them (R13; log 6). An element of
DMEM_INIT is a natural number, since construction checks its width (70_reset_and_hazards.md R341). -/
structure Params where
  imem : List InstrObj
  dmemInit : List Nat
  startPc : Nat
  stopAddr : Option Int
  bpInit : List Nat
  asmCtx : Option (List (String × Nat))
deriving DecidableEq, Repr

/-- What the driver may call between steps (60_exceptions.md R320): a request record, or the front end's
breakpoint toggle at a label (46_debug_triggers.md R243). -/
inductive DriverCall where
  | request (r : Request)
  | toggleLabel (label : String) (passes : Nat)
deriving DecidableEq, Repr

/-- What the driver knows of its run (47_step_engine.md R260, 60_exceptions.md R312; log 2). `halted`: the last STEP
returned cont = 0, "the fact that the last STEP returned `cont = 0`". `faulted`: the first error that a STEP raised. -/
structure RunRecord where
  halted : Bool
  faulted : Option Err
deriving DecidableEq, Repr

/-- The machine (10_state.md R20 to R39), with its parameters (log 6), its request port (log 1, log 4) and the driver's
record of its run (log 2). -/
structure State where
  config : Config
  params : Params
  w : Vector Wide 32
  valid : Vector (BitVec 16) 32
  sp : Special
  xs : Vector Limb 6
  flags : Flags
  dmem : Memory
  dinit : BitVec 128
  ls : List LoopEntry
  cs : List Limb
  pc : Nat
  stopAddr : Int
  finish : Bool
  bp : List (Nat × BpEntry)
  fb : ForceBreak
  hist : List (String × Nat)
  driver : List DriverCall
  response : Response
  run : RunRecord
deriving DecidableEq, Repr

/-- Why the machine stops. -/
inductive Fault where
  /-- Raised by `Machine.step` alone, when a STEP of the run raised the error `e` and the driver has queued nothing:
  "A model treats a run in which any error was raised as faulted" (60_exceptions.md R312; log 2). Safe: the driver
  could go on, and a queued request does. -/
  | runFaulted (e : Err)
deriving DecidableEq, Repr

/-- Why a step has no meaning. -/
inductive Refusal where
  /-- For an arm of `Machine.exec` without a meaning. No arm raises it. Safe. -/
  | notModelled (mnemonic : String)
  /-- Raised by `Machine.execStep`: the instruction object issues an operation outside families 0 to 5 and FINISH.
  "The block does not detect a nested STEP; its effect is not defined by the source"
  (70_reset_and_hazards.md R350, R351; 60_exceptions.md R320; log 9). Safe. -/
  | notIssuable (opSel : Nat)
  /-- Raised by `Machine.execStep` and `Machine.step`: the request record has a field that is "not representable
  in hardware", or not its format's fields (30_encoding.md R72; log 10). Safe. -/
  | malformedRequest (why : DecodeError)
  /-- Raised by `Machine.execStep`: an expression of the instruction object names a result that no operation before
  it bound, or one of another kind (log 10). Safe. -/
  | unboundResult
  /-- Raised by `Machine.execStep`: the instruction object runs fetched objects to a greater depth than its own
  `nesting`, and so it is not the "finite interactive program" of 00_scope.md R12 (log 25). Safe. -/
  | notFinite
deriving DecidableEq, Repr

/-- No result, no error, no diagnostic: the response before the first request (log 4). -/
def Response.empty : Response := ⟨.none, .none, []⟩

/-- The construction inputs of State.reset: no program is loaded (log 5). -/
def Params.unloaded : Params where
  imem := []
  dmemInit := []
  startPc := 0
  stopAddr := .none
  bpInit := []
  asmCtx := .none

/-- The special registers after reset: zero, and `rnd` its constant (10_state.md R23, R41). -/
def Special.reset : Special := ⟨0, 0, 0, 0, rndSentinel, 0⟩

/-- The flags after reset: all false (10_state.md R41). -/
def Flags.reset : Flags := ⟨false, false, false, false, false, false, false, false⟩

/-- The force-break trigger after reset (10_state.md R41). -/
def ForceBreak.reset : ForceBreak := ⟨false, false, 0, false, 0⟩

/-- A run not begun: the engine is not halted and no STEP has raised (47_step_engine.md R260). -/
def RunRecord.fresh : RunRecord := ⟨false, .none⟩

/-- The machine right after reset (10_state.md R41) with no program loaded: START_PC is 0 and STOP_ADDR the default
len(IMEM) - 1 = -1 (log 5); the registers' zeros are the spec's decisions D3 to D5 (log 15). -/
def State.reset : State where
  config := Config.default
  params := Params.unloaded
  w := Vector.replicate 32 0
  valid := Vector.replicate 32 0
  sp := Special.reset
  xs := Vector.replicate 6 0
  flags := Flags.reset
  dmem := []
  dinit := 0
  ls := []
  cs := []
  pc := 0
  stopAddr := -1
  finish := false
  bp := []
  fb := ForceBreak.reset
  hist := []
  driver := []
  response := Response.empty
  run := RunRecord.fresh

end Sys2Proof.Machine
end

