-- ==== Sys2Proof/Machine/Ops.lean ====
section
/-! DEFINITION. The named operations every meaning is built from: answering a request, taking an error, the checks
with the error each raises, finite maps, memory, the stacks and the field updates of State. -/

namespace Sys2Proof.Machine

/-- What a meaning answers. -/
abbrev Answer := Host.Outcome State Fault Refusal

/-! ### One update per field -/

def State.setW (s : State) (v : Vector Wide 32) : State := { s with w := v }
def State.setValid (s : State) (v : Vector (BitVec 16) 32) : State := { s with valid := v }
def State.setSp (s : State) (v : Special) : State := { s with sp := v }
def State.setXs (s : State) (v : Vector Limb 6) : State := { s with xs := v }
def State.setFlags (s : State) (v : Flags) : State := { s with flags := v }
def State.setDmem (s : State) (v : Memory) : State := { s with dmem := v }
def State.setDinit (s : State) (v : BitVec 128) : State := { s with dinit := v }
def State.setLs (s : State) (v : List LoopEntry) : State := { s with ls := v }
def State.setCs (s : State) (v : List Limb) : State := { s with cs := v }
def State.setPc (s : State) (v : Nat) : State := { s with pc := v }
def State.setFinish (s : State) (v : Bool) : State := { s with finish := v }
def State.setBp (s : State) (v : List (Nat × BpEntry)) : State := { s with bp := v }
def State.setFb (s : State) (v : ForceBreak) : State := { s with fb := v }
def State.setHist (s : State) (v : List (String × Nat)) : State := { s with hist := v }
def State.setDriver (s : State) (v : List DriverCall) : State := { s with driver := v }
def State.setResponse (s : State) (v : Response) : State := { s with response := v }
def State.setRun (s : State) (v : RunRecord) : State := { s with run := v }

/-! ### Answers and errors -/

/-- The request ends with result `r` and diagnostics `ds` (30_encoding.md R71). -/
def answerWith (ds : List Diag) (r : Result) (s : State) : Answer :=
  .next (s.setResponse ⟨r, none, ds⟩)

/-- The request ends with result `r` and no diagnostic. -/
def answer (r : Result) (s : State) : Answer := answerWith [] r s

/-- Error entry (60_exceptions.md R310) after the diagnostics `ds`: no handler, no vector, no saved pc, nothing
rolled back and nothing more written; the error goes to the driver in the response (R71; log 3). There is no
return from an error (R312), so no operation stands beside this one. -/
def raiseAfter (ds : List Diag) (e : Err) (s : State) : Answer :=
  .next (s.setResponse ⟨.none, some e, ds⟩)

/-- Error entry of one operation (60_exceptions.md R310). -/
def raise (e : Err) (s : State) : Answer := raiseAfter [] e s

/-- The end of a read that may emit the diagnostic `d` (60_exceptions.md R308): under the strict policy the
diagnostic is the error UninitRead instead (R309). -/
def report (d : Option Diag) (r : Result) (s : State) : Answer :=
  match d with
  | none => answer r s
  | some d =>
    match s.config.uninitRead with
    | .warn => answerWith [d] r s
    | .strict => raise (.uninitRead d) s

/-- The end of an operation on state that answers a result and a new state, or an error with nothing written. -/
def settle (s : State) : Except Err (Result × State) → Answer
  | .ok (r, t) => answer r t
  | .error e => raise e s

/-- Go on when the index is below its bound, else IndexError (60_exceptions.md R302). -/
def requireIndex (bound i : Nat) (s : State) (go : Answer) : Answer :=
  if i < bound then go else raise (.indexError i) s

/-- Go on when the value is below its limit, else RangeError (60_exceptions.md R301). -/
def requireRange (limit v : Nat) (s : State) (go : Answer) : Answer :=
  if v < limit then go else raise (.rangeError v) s

/-- Before a write whose target is `rnd` (41_register_file.md R132): under the fault policy InvalidOperand(rnd);
under the ignore policy the operation goes on, and its store to `rnd` writes nothing. -/
def rndGuard (isRnd : Bool) (s : State) (go : Answer) : Answer :=
  if isRnd && decide (s.config.rndWrite = .fault) then raise (.invalidOperand .rnd) s else go

/-- Decode a request and run it; an unassigned selector raises InvalidOperand and changes no state (30_encoding.md
R76; log 12); a record that is not representable is refused (R72; log 10). -/
def serve (run : Instr → State → Answer) (r : Request) (s : State) : Answer :=
  match decode r with
  | .ok i => run i s
  | .error (.unassignedSelector op) => raise (.invalidOperand (.number op)) s
  | .error e => .refused (.malformedRequest e)

/-! ### Finite maps as lists with strictly rising keys (log 18) -/

section Maps

variable {κ α : Type} [DecidableEq κ] [LT κ] [DecidableLT κ]

/-- The value at a key. -/
def mapGet (k : κ) : List (κ × α) → Option α
  | [] => none
  | (j, v) :: rest => if j = k then some v else mapGet k rest

/-- The map with the key at the value. -/
def mapPut (k : κ) (v : α) : List (κ × α) → List (κ × α)
  | [] => [(k, v)]
  | (j, u) :: rest =>
    if k = j then (k, v) :: rest
    else if k < j then (k, v) :: (j, u) :: rest
    else (j, u) :: mapPut k v rest

/-- The map without the key. -/
def mapErase (k : κ) : List (κ × α) → List (κ × α)
  | [] => []
  | (j, u) :: rest => if j = k then rest else (j, u) :: mapErase k rest

/-- The keys rise strictly. -/
abbrev MapSorted (m : List (κ × α)) : Prop := m.Pairwise fun p q => p.1 < q.1

end Maps

/-! ### DMEM (20_memory.md R52, R53, R57) -/

/-- The canonical form: addresses strictly rising, no byte 0 listed. -/
abbrev Memory.wf (m : Memory) : Prop := MapSorted m ∧ ∀ c ∈ m, c.2 ≠ 0

/-- The byte at an address; an unlisted byte is 0 (10_state.md R41, "zero-padded"; log 16). -/
def Memory.read (m : Memory) (a : Nat) : Byte := (mapGet a m).getD 0

/-- The memory with the byte at the address, in canonical form. -/
def Memory.write (m : Memory) (a : Nat) (b : Byte) : Memory :=
  if b = 0 then mapErase a m else mapPut a b m

/-- The n bytes from address a, little-endian (20_memory.md R53). -/
def Memory.readBytes (m : Memory) (a : Nat) : Nat → Nat
  | 0 => 0
  | n + 1 => (m.read a).toNat + 256 * Memory.readBytes m (a + 1) n

/-- The memory with the low n bytes of v from address a on, little-endian (20_memory.md R53). -/
def Memory.writeBytes (m : Memory) (a : Nat) : Nat → Nat → Memory
  | 0, _ => m
  | n + 1, v => Memory.writeBytes (m.write a (BitVec.ofNat 8 v)) (a + 1) n (v / 256)

/-- `cell(b)`, the cell of a byte address (20_memory.md R52). -/
def cellOf (b : Nat) : Nat := b / 32

/-- `lidx(b)`, the limb of a byte address; the low two bits are not looked at (20_memory.md R52, R54). -/
def limbOf (b : Nat) : Nat := b % 32 / 4

/-- The byte address at which the limb of byte address b begins (20_memory.md R53, R54). -/
def limbBase (b : Nat) : Nat := 32 * cellOf b + 4 * limbOf b

/-- `MemRead(32a, 32)`, the cell at a (20_memory.md R57). -/
def State.readCell (s : State) (a : Nat) : Wide := BitVec.ofNat 256 (s.dmem.readBytes (32 * a) 32)

/-- `MemRead(b, 4)`, the limb at byte address b (20_memory.md R57). -/
def State.readMemLimb (s : State) (b : Nat) : Limb := BitVec.ofNat 32 (s.dmem.readBytes (limbBase b) 4)

/-- `dinit[a] <- true` (10_state.md R33). -/
def State.markCell (s : State) (a : Nat) : State := s.setDinit (s.dinit ||| BitVec.ofNat 128 (2 ^ a))

/-- `MemWrite(32a, 32, v)` (20_memory.md R57). -/
def State.writeCell (s : State) (a v : Nat) : State :=
  (s.setDmem (s.dmem.writeBytes (32 * a) 32 v)).markCell a

/-- `MemWrite(b, 4, x)` (20_memory.md R57). -/
def State.writeMemLimb (s : State) (b x : Nat) : State :=
  (s.setDmem (s.dmem.writeBytes (limbBase b) 4 x)).markCell (cellOf b)

/-- The diagnostic of a read of cell a (44_memory_ops.md R200, R202). -/
def State.cellDiag (s : State) (a : Nat) : Option Diag :=
  if s.dinit.getLsbD a then none else some (.uninitCell a)

/-! ### The two stacks, bottom first (45_stacks.md R220) -/

/-- A push on the call stack (45_stacks.md R226). -/
def State.pushCall (s : State) (x : Limb) : Except Err State :=
  if s.cs.length < stackDepth then .ok (s.setCs (s.cs ++ [x])) else .error (.stackOverflow .call)

/-- A pop of the call stack (45_stacks.md R227). -/
def State.popCall (s : State) : Except Err (Limb × State) :=
  match s.cs.getLast? with
  | some x => .ok (x, s.setCs s.cs.dropLast)
  | none => .error (.stackUnderrun .call)

/-- A push on the loop stack (45_stacks.md R221). -/
def State.pushLoop (s : State) (e : LoopEntry) : Except Err State :=
  if s.ls.length < stackDepth then .ok (s.setLs (s.ls ++ [e])) else .error (.stackOverflow .loop)

/-- The top of the loop stack (45_stacks.md R220). -/
def State.topLoop (s : State) : Except Err LoopEntry :=
  match s.ls.getLast? with
  | some e => .ok e
  | none => .error (.stackUnderrun .loop)

/-- The loop stack without its top (45_stacks.md R223). -/
def State.dropLoop (s : State) : State := s.setLs s.ls.dropLast

/-- One decrement of the top entry `e` (45_stacks.md R222): true and one less when its count is above 0, else
false and nothing changed. -/
def State.decLoop (s : State) (e : LoopEntry) : Bool × State :=
  if e.count = 0 then (false, s)
  else (true, s.setLs (s.ls.dropLast ++ [{ e with count := e.count - 1 }]))

end Sys2Proof.Machine
end

