-- ==== Sys2Proof/Machine/Debug.lean ====
section
/-! DEFINITION. Family 6, the breakpoint table and the force-break trigger (spec 46_debug_triggers.md). -/

namespace Sys2Proof.Machine

/-- One evaluation of the breakpoint table at an address: the hit and the table after it
(46_debug_triggers.md R241). -/
def evalBp (addr : Nat) (s : State) : Bool × State :=
  match mapGet addr s.bp with
  | none => (false, s)
  | some e =>
    if e.counter = e.required then (true, s.setBp (mapPut addr { e with counter := 1 } s.bp))
    else (false, s.setBp (mapPut addr { e with counter := e.counter + 1 } s.bp))

/-- The firing condition of an armed force-break (46_debug_triggers.md R244). -/
def fbFires (s : State) : Bool :=
  (!s.fb.useCall && !s.fb.useLoop)
    || (s.fb.useCall && decide (s.cs.length = s.fb.callTarget))
    || (s.fb.useLoop && decide (s.ls.length = s.fb.loopTarget))

/-- One evaluation of the force-break trigger: the hit and the trigger after it (46_debug_triggers.md R244). -/
def evalFb (s : State) : Bool × State :=
  if s.fb.armed && fbFires s then (true, s.setFb { s.fb with armed := false }) else (false, s)

/-- The tuple a condition arms (46_debug_triggers.md R242); none for the unassigned code. -/
def armedBy : FbCond → Option ForceBreak
  | .none => some ⟨true, false, 0, false, 0⟩
  | .callDepth d => some ⟨true, true, d, false, 0⟩
  | .loopDepth d => some ⟨true, false, 0, true, d⟩
  | .unassigned => none

/-- BP.TOGGLE (46_debug_triggers.md R240). -/
def execBpToggle (addr passes : Nat) (s : State) : Answer :=
  match mapGet addr s.bp with
  | some _ => answer .none (s.setBp (mapErase addr s.bp))
  | none =>
    if passes = 0 then raise (.rangeError passes) s
    else answer .none (s.setBp (mapPut addr ⟨passes, 1⟩ s.bp))

/-- BP.EVAL (46_debug_triggers.md R241). -/
def execBpEval (addr : Nat) (s : State) : Answer :=
  answer (.bit (evalBp addr s).1) (evalBp addr s).2

/-- FB.ARM (46_debug_triggers.md R242); the unassigned condition code 3 is an InvalidOperand (60_exceptions.md
R305; log 22). -/
def execFbArm (cond : FbCond) (s : State) : Answer :=
  match armedBy cond with
  | some f => answer .none (s.setFb f)
  | none => raise (.invalidOperand (.number 3)) s

/-- FB.EVAL (46_debug_triggers.md R244). -/
def execFbEval (s : State) : Answer :=
  answer (.bit (evalFb s).1) (evalFb s).2

/-- The address of a label in the assembler context, the first entry of that name (46_debug_triggers.md R243;
log 19). -/
def labelAddr (ctx : Option (List (String × Nat))) (label : String) : Option Nat :=
  match ctx with
  | none => none
  | some names => mapGet label names

/-- The driver's front end, given a label as breakpoint target (46_debug_triggers.md R243): the label's address
goes to BP.TOGGLE; without a context or such a name it reports InvalidOperand and issues no BP.TOGGLE. -/
def serveLabel (run : Instr → State → Answer) (label : String) (passes : Nat) (s : State) : Answer :=
  match labelAddr s.params.asmCtx label with
  | some a => run (.bpToggle a passes) s
  | none => raise (.invalidOperand (.label label)) s

end Sys2Proof.Machine
end

