-- ==== Sys2Proof/Machine/Flags.lean ====
section
/-! DEFINITION. The eight flags, the packed byte and the derivation from a 257-bit value (spec 10_state.md R29, R30,
43_flags.md R180 to R185). -/

namespace Sys2Proof.Machine

/-- The flag a `flagid` names, in the order of the packed byte; none for 8 and above (30_encoding.md R73). -/
def Flags.get (f : Flags) : Nat → Option Bool
  | 0 => some f.c
  | 1 => some f.l
  | 2 => some f.m
  | 3 => some f.z
  | 4 => some f.xc
  | 5 => some f.xl
  | 6 => some f.xm
  | 7 => some f.xz
  | _ => none

/-- The flags with the one a `flagid` names at b; none for 8 and above (43_flags.md R182). -/
def Flags.set (f : Flags) (b : Bool) : Nat → Option Flags
  | 0 => some { f with c := b }
  | 1 => some { f with l := b }
  | 2 => some { f with m := b }
  | 3 => some { f with z := b }
  | 4 => some { f with xc := b }
  | 5 => some { f with xl := b }
  | 6 => some { f with xm := b }
  | 7 => some { f with xz := b }
  | _ => none

/-- The packed flag byte (10_state.md R30, 43_flags.md R183). -/
def Flags.pack (f : Flags) : Byte :=
  BitVec.ofNat 8 (f.c.toNat + 2 * f.l.toNat + 4 * f.m.toNat + 8 * f.z.toNat
    + 16 * f.xc.toNat + 32 * f.xl.toNat + 64 * f.xm.toNat + 128 * f.xz.toNat)

/-- All eight flags from a byte (43_flags.md R184). -/
def Flags.unpack (p : Nat) : Flags :=
  ⟨p.testBit 0, p.testBit 1, p.testBit 2, p.testBit 3, p.testBit 4, p.testBit 5, p.testBit 6, p.testBit 7⟩

/-- The bit above the word: carry or borrow (43_flags.md R185). -/
def dC (v : Nat) : Bool := v.testBit 256

/-- The most significant bit of the word (43_flags.md R185). -/
def dM (v : Nat) : Bool := v.testBit 255

/-- The least significant bit of the word (43_flags.md R185). -/
def dL (v : Nat) : Bool := v.testBit 0

/-- The low 256 bits are all zero; bit 256 is not looked at (43_flags.md R185). -/
def dZ (v : Nat) : Bool := decide (v % 2 ^ 256 = 0)

/-- A derived setter: RangeError for a v of 2^257 or more and no flag written, else the flags `f`
(43_flags.md R185). -/
def deriveFlags (v : Nat) (f : Flags) (s : State) : Answer :=
  requireRange (2 ^ 257) v s (answer .none (s.setFlags f))

end Sys2Proof.Machine
end

