-- ==== Sys2Proof/Machine/FlagOps.lean ====
section
/-! DEFINITION. Family 3, the flag operations (spec 43_flags.md R181 to R193). -/

namespace Sys2Proof.Machine

/-- FLAG.GET (43_flags.md R181). -/
def execFlagGet (f : Nat) (s : State) : Answer :=
  match s.flags.get f with
  | some b => answer (.bit b) s
  | none => raise (.invalidOperand (.number f)) s

/-- FLAG.SET (43_flags.md R182). -/
def execFlagSet (f : Nat) (b : Bool) (s : State) : Answer :=
  match s.flags.set b f with
  | some fl => answer .none (s.setFlags fl)
  | none => raise (.invalidOperand (.number f)) s

/-- FLAG.GETP (43_flags.md R183). -/
def execFlagGetP (s : State) : Answer := answer (.packed s.flags.pack) s

/-- FLAG.SETP (43_flags.md R184). -/
def execFlagSetP (p : Nat) (s : State) : Answer :=
  requireRange 256 p s (answer .none (s.setFlags (Flags.unpack p)))

/-- FLAG.SETW (43_flags.md R186). -/
def execFlagSetW (v : Nat) (s : State) : Answer :=
  deriveFlags v { s.flags with c := dC v, m := dM v, l := dL v, z := dZ v } s

/-- FLAG.SETXW (43_flags.md R187). -/
def execFlagSetXW (v : Nat) (s : State) : Answer :=
  deriveFlags v { s.flags with xc := dC v, xm := dM v, xl := dL v, xz := dZ v } s

/-- FLAG.SETZML (43_flags.md R188). -/
def execFlagSetZml (v : Nat) (s : State) : Answer :=
  deriveFlags v { s.flags with z := dZ v, m := dM v, l := dL v } s

/-- FLAG.SETXZML (43_flags.md R189). -/
def execFlagSetXZml (v : Nat) (s : State) : Answer :=
  deriveFlags v { s.flags with xz := dZ v, xm := dM v, xl := dL v } s

/-- FLAG.SETCM (43_flags.md R190). -/
def execFlagSetCm (v : Nat) (s : State) : Answer :=
  deriveFlags v { s.flags with c := dC v, m := dM v } s

/-- FLAG.SETXCM (43_flags.md R191). -/
def execFlagSetXCm (v : Nat) (s : State) : Answer :=
  deriveFlags v { s.flags with xc := dC v, xm := dM v } s

/-- FLAG.SETL (43_flags.md R192). -/
def execFlagSetL (v : Nat) (s : State) : Answer :=
  deriveFlags v { s.flags with l := dL v } s

/-- FLAG.SETXL (43_flags.md R193). -/
def execFlagSetXL (v : Nat) (s : State) : Answer :=
  deriveFlags v { s.flags with xl := dL v } s

end Sys2Proof.Machine
end

