-- ==== Sys2Proof/Machine/Operands.lean ====
section
/-! DEFINITION. Operand forms: the sub-views of a wide word (spec 00_scope.md R8), register ids (41_register_file.md
R130), validity slots (R131, R133), GPR indices (42_gpr_file.md R160 to R162), CSR and WSR numbers (10_state.md
R31, R32). -/

namespace Sys2Proof.Machine

/-! ### Sub-views (00_scope.md R8) -/

/-- Bits lo+w-1 down to lo of a wide word. -/
def part (w : Nat) (v : Wide) (lo : Nat) : BitVec w := v.extractLsb' lo w

/-- The wide word with bits lo+w-1 down to lo replaced by x and every other bit kept. -/
def withPart {w : Nat} (v : Wide) (lo : Nat) (x : BitVec w) : Wide :=
  (v &&& ~~~((BitVec.allOnes w).setWidth 256 <<< lo)) ||| (x.setWidth 256 <<< lo)

/-- `limb(v, i)`. -/
def limb (v : Wide) (i : Nat) : Limb := part 32 v (32 * i)

/-- The low bit of half-limb u of limb i. -/
def hlimbLow (i : Nat) (u : Bool) : Nat := 32 * i + 16 * u.toNat

/-- `hlimb(v, i, u)`. -/
def hlimb (v : Wide) (i : Nat) (u : Bool) : HalfLimb := part 16 v (hlimbLow i u)

/-- `qword(v, q)`. -/
def qword (v : Wide) (q : Nat) : QuarterWord := part 64 v (64 * q)

/-- `hword(v, h)`. -/
def hword (v : Wide) (h : Nat) : HalfWord := part 128 v (128 * h)

/-- `with_limb(v, i, x)`. -/
def withLimb (v : Wide) (i : Nat) (x : Limb) : Wide := withPart v (32 * i) x

/-- `with_hlimb(v, i, u, x)`. -/
def withHlimb (v : Wide) (i : Nat) (u : Bool) (x : HalfLimb) : Wide := withPart v (hlimbLow i u) x

/-- `with_qword(v, q, x)`. -/
def withQword (v : Wide) (q : Nat) (x : QuarterWord) : Wide := withPart v (64 * q) x

/-- `with_hword(v, h, x)`. -/
def withHword (v : Wide) (h : Nat) (x : HalfWord) : Wide := withPart v (128 * h) x

/-! ### Register ids -/

/-- What a register id names (41_register_file.md R130). -/
inductive Target where
  | general (n : Fin 32)
  | special (r : SpecialReg)
deriving DecidableEq, Repr

/-- `resolve` (41_register_file.md R130). -/
def resolve : RegId → Except Err Target
  | .general n => if h : n < 32 then .ok (.general ⟨n, h⟩) else .error (.indexError n)
  | .special 0 => .ok (.special .mod)
  | .special 1 => .ok (.special .dmp)
  | .special 2 => .ok (.special .rfp)
  | .special 3 => .ok (.special .lc)
  | .special 4 => .ok (.special .rnd)
  | .special 5 => .ok (.special .acc)
  | .special n => .error (.invalidOperand (.number n))

/-- The stored value of a special register. -/
def Special.get (sp : Special) : SpecialReg → Wide
  | .mod => sp.mod
  | .dmp => sp.dmp
  | .rfp => sp.rfp
  | .lc => sp.lc
  | .rnd => sp.rnd
  | .acc => sp.acc

/-- A store to a special register; `rnd` is not writable (10_state.md R23, 41_register_file.md R132). -/
def Special.set (sp : Special) (v : Wide) : SpecialReg → Special
  | .mod => { sp with mod := v }
  | .dmp => { sp with dmp := v }
  | .rfp => { sp with rfp := v }
  | .lc => { sp with lc := v }
  | .rnd => sp
  | .acc => { sp with acc := v }

/-- `cur(t)`, the stored value (41_register_file.md R130). -/
def State.cur (s : State) : Target → Wide
  | .general n => s.w[n.val]
  | .special r => s.sp.get r

/-- The validity bits of the `count` half-limb slots from `lo` on (10_state.md R21). -/
def slotMask (lo count : Nat) : BitVec 16 := BitVec.ofNat 16 ((2 ^ count - 1) * 2 ^ lo)

/-- `cur(t) <- v`, marking the `count` slots from `lo` on valid when t is a general register (41_register_file.md
R131, R140, R142). Validity bits are only ever set here. -/
def State.store (s : State) (t : Target) (v : Wide) (lo count : Nat) : State :=
  match t with
  | .general n =>
    (s.setW (s.w.set n.val v)).setValid (s.valid.set n.val (s.valid[n.val] ||| slotMask lo count))
  | .special r => s.setSp (s.sp.set v r)

/-- The diagnostic of a read of t that covers the `count` slots from `lo` on (41_register_file.md R133): one when
some slot is invalid, with every invalid slot; none for a special register. -/
def State.regDiag (s : State) (t : Target) (lo count : Nat) : Option Diag :=
  match t with
  | .general n =>
    match (List.range' lo count).filter fun k => !(s.valid[n.val]).getLsbD k with
    | [] => none
    | missing => some (.uninitReg n.val missing)
  | .special _ => none

/-- Is the target `rnd`? (41_register_file.md R132) -/
def Target.isRnd (t : Target) : Bool := decide (t = .special .rnd)

/-- The first slot and the number of slots a granularity marks (41_register_file.md R131). -/
def granSlots : Gran → Nat × Nat
  | .full => (0, 16)
  | .limb i => (2 * i, 2)
  | .halfLimb i u => (2 * i + u.toNat, 1)
  | .unassigned => (0, 0)

/-- The check of a granularity (41_register_file.md R131, 60_exceptions.md R305): a limb index above 7 is an
IndexError, the unassigned code 3 an InvalidOperand (log 22). -/
def granGuard (g : Gran) (s : State) (go : Answer) : Answer :=
  match g with
  | .full => go
  | .limb i => requireIndex 8 i s go
  | .halfLimb i _ => requireIndex 8 i s go
  | .unassigned => raise (.invalidOperand (.number 3)) s

/-- Go on with the target a register id names, else take its error (41_register_file.md R130). -/
def withTarget (id : RegId) (s : State) (go : Target → Answer) : Answer :=
  match resolve id with
  | .ok t => go t
  | .error e => raise e s

/-! ### GPR indices (42_gpr_file.md R160) -/

/-- The read of a GPR: the value and the state after it; reading x1 pops the call stack (42_gpr_file.md R161). -/
def State.readGpr (s : State) (i : Nat) : Except Err (Limb × State) :=
  if 31 < i then .error (.indexError i)
  else if i = 0 then .ok (0, s)
  else if i = 1 then s.popCall
  else if h : i ≤ 7 then .ok (s.xs[i - 2], s)
  else if i ≤ 15 then .ok (limb s.sp.rfp (i - 8), s)
  else if i ≤ 23 then .ok (limb s.sp.dmp (i - 16), s)
  else .ok (limb s.sp.lc (i - 24), s)

/-- The store of a 32-bit value to a GPR in [0, 31]; writing x1 pushes on the call stack (42_gpr_file.md R162). -/
def State.storeGpr (s : State) (i : Nat) (x : Limb) : Except Err State :=
  if i = 0 then .ok s
  else if i = 1 then s.pushCall x
  else if h : i ≤ 7 then .ok (s.setXs (s.xs.set (i - 2) x))
  else if i ≤ 15 then .ok (s.setSp { s.sp with rfp := withLimb s.sp.rfp (i - 8) x })
  else if i ≤ 23 then .ok (s.setSp { s.sp with dmp := withLimb s.sp.dmp (i - 16) x })
  else .ok (s.setSp { s.sp with lc := withLimb s.sp.lc (i - 24) x })

/-- The write of a GPR: the index, then the value, then the dispatch (42_gpr_file.md R162). -/
def State.writeGpr (s : State) (i x : Nat) : Except Err State :=
  if 31 < i then .error (.indexError i)
  else if x < 2 ^ 32 then s.storeGpr i (BitVec.ofNat 32 x)
  else .error (.rangeError x)

/-- A read-modify-write of a GPR modulo 2^32 (42_gpr_file.md R163, R164); the pop of x1 is done if the write then
fails (60_exceptions.md R310). -/
def State.stepGpr (s : State) (i by' : Nat) : Answer :=
  match s.readGpr i with
  | .error e => raise e s
  | .ok (v, t) =>
    match t.writeGpr i ((v.toNat + by') % 2 ^ 32) with
    | .error e => raise e t
    | .ok u => answer .none u

/-! ### CSR and WSR numbers (10_state.md R31, R32) -/

/-- What a CSR number names. -/
inductive CsrTarget where
  | flags
  | modLimb (k : Nat)
  | rnd
deriving DecidableEq, Repr

/-- The CSR a number names, none for an unknown number (10_state.md R31). -/
def csrTarget (c : Config) (n : Nat) : Option CsrTarget :=
  if n = c.csrFlags then some .flags
  else if c.csrModBase ≤ n ∧ n ≤ c.csrModBase + 7 then some (.modLimb (n - c.csrModBase))
  else if n = c.csrRnd then some .rnd
  else none

/-- The special register a WSR index names, none for an unknown index (10_state.md R32). -/
def wsrTarget (c : Config) (n : Nat) : Option SpecialReg :=
  if n = c.wsrMod then some .mod
  else if n = c.wsrRnd then some .rnd
  else none

end Sys2Proof.Machine
end

