-- ==== Sys2Proof/Machine/Gpr.lean ====
section
/-! DEFINITION. Family 2, the scalar GPR file (spec 42_gpr_file.md R161 to R164). -/

namespace Sys2Proof.Machine

/-- GPR.GET (42_gpr_file.md R161). -/
def execGprGet (i : Nat) (s : State) : Answer :=
  settle s ((s.readGpr i).map fun p => (.limb p.1, p.2))

/-- GPR.SET (42_gpr_file.md R162). -/
def execGprSet (i x : Nat) (s : State) : Answer :=
  settle s ((s.writeGpr i x).map fun t => (.none, t))

/-- GPR.INC (42_gpr_file.md R163). -/
def execGprInc (i : Nat) (s : State) : Answer := s.stepGpr i 1

/-- GPR.INCWB (42_gpr_file.md R164). -/
def execGprIncWb (i : Nat) (s : State) : Answer := s.stepGpr i wordBytes

end Sys2Proof.Machine
end

