-- ==== Sys2Proof/Machine/MemoryOps.lean ====
section
/-! DEFINITION. Family 4, data and instruction memory (spec 44_memory_ops.md R200 to R204). -/

namespace Sys2Proof.Machine

/-- DMEM.GET (44_memory_ops.md R200). -/
def execDmemGet (a : Nat) (s : State) : Answer :=
  requireIndex dmemDepth a s (report (s.cellDiag a) (.wide (s.readCell a)) s)

/-- DMEM.SET (44_memory_ops.md R201). -/
def execDmemSet (a v : Nat) (s : State) : Answer :=
  requireIndex dmemDepth a s (requireRange (2 ^ 256) v s (answer .none (s.writeCell a v)))

/-- DMEM.GETLIMB (44_memory_ops.md R202). -/
def execDmemGetLimb (b : Nat) (s : State) : Answer :=
  requireIndex dmemBytes b s (report (s.cellDiag (cellOf b)) (.limb (s.readMemLimb b)) s)

/-- DMEM.SETLIMB (44_memory_ops.md R203). -/
def execDmemSetLimb (b x : Nat) (s : State) : Answer :=
  requireIndex dmemBytes b s (requireRange (2 ^ 32) x s (answer .none (s.writeMemLimb b x)))

/-- IMEM.FETCH (44_memory_ops.md R204). -/
def execImemFetch (a : Nat) (s : State) : Answer :=
  match s.params.imem[a]? with
  | some o => answer (.obj o) s
  | none => raise (.indexError a) s

end Sys2Proof.Machine
end

