-- ==== Sys2Proof/Machine/RegFile.lean ====
section
/-! DEFINITION. Family 1, the wide register file (spec 41_register_file.md R130 to R142). -/

namespace Sys2Proof.Machine

/-- A read of a part of a register: the id, then the part's index below `bound`, then the diagnostic over the
slots the part covers, then the value (41_register_file.md R134, R135, R137, R139, R141). -/
def readPart (id : RegId) (bound i lo count : Nat) (view : Wide → Result) (s : State) : Answer :=
  withTarget id s fun t => requireIndex bound i s
    (report (s.regDiag t lo count) (view (s.cur t)) s)

/-- A write of a part of a register: the id, the part's index below `bound`, `rnd`, the value's width, then the
store of the whole word with the part replaced and the slots it covers marked valid; the read inside emits no
diagnostic (41_register_file.md R136, R138, R140, R142, R133). -/
def writePart (id : RegId) (bound i w x lo count : Nat) (put : Wide → BitVec w → Wide) (s : State) : Answer :=
  withTarget id s fun t => requireIndex bound i s (rndGuard t.isRnd s (requireRange (2 ^ w) x s
    (answer .none (s.store t (put (s.cur t) (BitVec.ofNat w x)) lo count))))

/-- RF.GET (41_register_file.md R134). -/
def execRfGet (id : RegId) (s : State) : Answer :=
  withTarget id s fun t => report (s.regDiag t 0 16) (.wide (s.cur t)) s

/-- RF.SET (41_register_file.md R131): the whole v is stored whatever the granularity is. -/
def execRfSet (id : RegId) (v : Nat) (g : Gran) (s : State) : Answer :=
  withTarget id s fun t => granGuard g s (rndGuard t.isRnd s (requireRange (2 ^ 256) v s
    (answer .none (s.store t (BitVec.ofNat 256 v) (granSlots g).1 (granSlots g).2))))

/-- RF.GETLIMB (41_register_file.md R135). -/
def execRfGetLimb (id : RegId) (i : Nat) (s : State) : Answer :=
  readPart id 8 i (2 * i) 2 (fun v => .limb (limb v i)) s

/-- RF.SETLIMB (41_register_file.md R136). -/
def execRfSetLimb (id : RegId) (i x : Nat) (s : State) : Answer :=
  writePart id 8 i 32 x (2 * i) 2 (fun v x => withLimb v i x) s

/-- RF.GETHLIMB (41_register_file.md R137). -/
def execRfGetHLimb (id : RegId) (i : Nat) (u : Bool) (s : State) : Answer :=
  readPart id 8 i (2 * i + u.toNat) 1 (fun v => .halfLimb (hlimb v i u)) s

/-- RF.SETHLIMB (41_register_file.md R138). -/
def execRfSetHLimb (id : RegId) (i : Nat) (u : Bool) (x : Nat) (s : State) : Answer :=
  writePart id 8 i 16 x (2 * i + u.toNat) 1 (fun v x => withHlimb v i u x) s

/-- RF.GETHWORD (41_register_file.md R139). -/
def execRfGetHWord (id : RegId) (h : Nat) (s : State) : Answer :=
  readPart id 2 h (8 * h) 8 (fun v => .halfWord (hword v h)) s

/-- RF.SETHWORD (41_register_file.md R140). -/
def execRfSetHWord (id : RegId) (h x : Nat) (s : State) : Answer :=
  writePart id 2 h 128 x (8 * h) 8 (fun v x => withHword v h x) s

/-- RF.GETQWORD (41_register_file.md R141). -/
def execRfGetQWord (id : RegId) (q : Nat) (s : State) : Answer :=
  readPart id 4 q (4 * q) 4 (fun v => .quarterWord (qword v q)) s

/-- RF.SETQWORD (41_register_file.md R142). -/
def execRfSetQWord (id : RegId) (q x : Nat) (s : State) : Answer :=
  writePart id 4 q 64 x (4 * q) 4 (fun v x => withQword v q x) s

end Sys2Proof.Machine
end

