-- ==== Sys2Proof/Machine/Reset.lean ====
section
/-! DEFINITION. Construction, RESET and CLEARREGS (spec 70_reset_and_hazards.md R340 to R344, 10_state.md R41). -/

namespace Sys2Proof.Machine

/-- The cells from a on, given values written (70_reset_and_hazards.md R341). -/
def initCells : List Nat → Nat → Memory → Memory
  | [], _, m => m
  | v :: vs, a, m => initCells vs (a + 1) (m.writeBytes (32 * a) 32 v)

/-- DMEM_INIT, zero-padded (10_state.md R41). -/
def Params.dmem (p : Params) : Memory := initCells p.dmemInit 0 []

/-- The initialised bits: true for the cells DMEM_INIT gives (10_state.md R41). -/
def Params.dinit (p : Params) : BitVec 128 := BitVec.ofNat 128 (2 ^ p.dmemInit.length - 1)

/-- STOP_ADDR, default len(IMEM) - 1 (00_scope.md R6). -/
def Params.stop (p : Params) : Int := p.stopAddr.getD ((p.imem.length : Int) - 1)

/-- { a ↦ (1, 1) : a in BP_INIT } (70_reset_and_hazards.md R341). -/
def Params.bp (p : Params) : List (Nat × BpEntry) :=
  p.bpInit.foldl (fun m a => mapPut a ⟨1, 1⟩ m) []

/-- The `require` lines of construction (70_reset_and_hazards.md R341), and that no instruction object issues what
an instruction must not issue (00_scope.md R12, 70_reset_and_hazards.md R350; log 9). -/
def Params.valid (p : Params) : Bool :=
  decide (1 ≤ p.imem.length) && decide (p.imem.length ≤ imemCapacity) && decide (p.startPc < p.imem.length)
    && decide (p.dmemInit.length ≤ dmemDepth) && p.dmemInit.all (fun v => decide (v < 2 ^ 256))
    && p.imem.all InstrObj.wf

/-- The machine that construction makes from its inputs, with nothing required of them (70_reset_and_hazards.md
R341, 10_state.md R41). -/
def machineOf (c : Config) (p : Params) : State :=
  { State.reset with
    config := c
    params := p
    dmem := p.dmem
    dinit := p.dinit
    pc := p.startPc
    stopAddr := p.stop
    bp := p.bp }

/-- Construction (70_reset_and_hazards.md R341): inputs that break a `require` make no machine (D24). -/
def construct (c : Config) (p : Params) : Option State :=
  if c.wf && p.valid then some (machineOf c p) else none

/-- RESET (70_reset_and_hazards.md R343): construction again with the same inputs, keeping the breakpoint table and
the histogram; the driver's queue is the driver's (log 20). -/
def execReset (s : State) : Answer :=
  answer .none { machineOf s.config s.params with bp := s.bp, hist := s.hist, driver := s.driver }

/-- CLEARREGS (70_reset_and_hazards.md R344). -/
def execClearRegs (s : State) : Answer :=
  answer .none { s with
    w := Vector.replicate 32 0
    valid := Vector.replicate 32 0
    sp := { s.sp with mod := 0, dmp := 0, rfp := 0, lc := 0, acc := 0 }
    xs := Vector.replicate 6 0 }

end Sys2Proof.Machine
end

