-- ==== Sys2Proof/Machine/Stacks.lean ====
section
/-! DEFINITION. Family 5, the loop stack and the call stack (spec 45_stacks.md R220 to R227). -/

namespace Sys2Proof.Machine

/-- LOOP.PUSH (45_stacks.md R221). -/
def execLoopPush (count endAddr start : Limb) (s : State) : Answer :=
  settle s ((s.pushLoop ⟨count, endAddr, start⟩).map fun t => (.none, t))

/-- LOOP.DEC (45_stacks.md R222). -/
def execLoopDec (s : State) : Answer :=
  settle s (s.topLoop.map fun e => (.bit (s.decLoop e).1, (s.decLoop e).2))

/-- LOOP.POP (45_stacks.md R223). -/
def execLoopPop (s : State) : Answer :=
  settle s (s.topLoop.map fun e => (.limb e.start, s.dropLoop))

/-- LOOP.TOPEND (45_stacks.md R224). -/
def execLoopTopEnd (s : State) : Answer :=
  settle s (s.topLoop.map fun e => (.limb e.endAddr, s))

/-- LOOP.TOPSTART (45_stacks.md R225). -/
def execLoopTopStart (s : State) : Answer :=
  settle s (s.topLoop.map fun e => (.limb e.start, s))

/-- CALL.PUSH (45_stacks.md R226). -/
def execCallPush (addr : Limb) (s : State) : Answer :=
  settle s ((s.pushCall addr).map fun t => (.none, t))

/-- CALL.POP (45_stacks.md R227). -/
def execCallPop (s : State) : Answer :=
  settle s (s.popCall.map fun p => (.limb p.1, p.2))

end Sys2Proof.Machine
end

