-- ==== Sys2Proof/Machine/StatusRegs.lean ====
section
/-! DEFINITION. Family 1, the CSR and WSR views (spec 41_register_file.md R143 to R147): no storage of their own. -/

namespace Sys2Proof.Machine

/-- CSR.GET (41_register_file.md R144). -/
def execCsrGet (n : Nat) (s : State) : Answer :=
  match csrTarget s.config n with
  | some .flags => answer (.limb (s.flags.pack.setWidth 32)) s
  | some (.modLimb k) => answer (.limb (limb s.sp.mod k)) s
  | some .rnd => answer (.limb (limb s.sp.rnd 0)) s
  | none => raise (.invalidOperand (.number n)) s

/-- CSR.SET (41_register_file.md R145). -/
def execCsrSet (n x : Nat) (s : State) : Answer :=
  match csrTarget s.config n with
  | none => raise (.invalidOperand (.number n)) s
  | some .rnd => rndGuard true s (requireRange (2 ^ 32) x s (answer .none s))
  | some .flags =>
    requireRange (2 ^ 32) x s (requireRange 256 x s (answer .none (s.setFlags (Flags.unpack x))))
  | some (.modLimb k) =>
    requireRange (2 ^ 32) x s
      (answer .none (s.setSp { s.sp with mod := withLimb s.sp.mod k (BitVec.ofNat 32 x) }))

/-- WSR.GET (41_register_file.md R146). -/
def execWsrGet (n : Nat) (s : State) : Answer :=
  match wsrTarget s.config n with
  | some r => answer (.wide (s.sp.get r)) s
  | none => raise (.invalidOperand (.number n)) s

/-- WSR.SET (41_register_file.md R147). -/
def execWsrSet (n v : Nat) (s : State) : Answer :=
  match wsrTarget s.config n with
  | none => raise (.invalidOperand (.number n)) s
  | some r =>
    rndGuard (decide (r = .rnd)) s (requireRange (2 ^ 256) v s
      (answer .none (s.setSp (s.sp.set (BitVec.ofNat 256 v) r))))

end Sys2Proof.Machine
end

