-- ==== Sys2Proof/Machine/WideAlu.lean ====
section
/-! DEFINITION. Family 0, the wide-word ALU (spec 40_wideword_alu.md). Every operation is pure (R100): it changes
nothing but the response. A wide operand of 2^256 or more is a RangeError "before anything else" (R100; log 17). -/

namespace Sys2Proof.Machine

/-- A wide operand (40_wideword_alu.md R100). -/
def withWide (a : Nat) (s : State) (go : Wide → Answer) : Answer :=
  requireRange (2 ^ 256) a s (go (BitVec.ofNat 256 a))

/-- `s = a + b + c; r = s mod M; cout = s div M` (40_wideword_alu.md R101). -/
def addWide (a b : Wide) (c : Bool) : Wide × Bool :=
  let sum := a.toNat + b.toNat + c.toNat
  (BitVec.ofNat 256 sum, decide (2 ^ 256 ≤ sum))

/-- `d = a - b - c; r = d mod M; bout = 1 if d < 0` (40_wideword_alu.md R102). -/
def subWide (a b : Wide) (c : Bool) : Wide × Bool :=
  let d : Int := (a.toNat : Int) - b.toNat - c.toNat
  (BitVec.ofInt 256 d, decide (d < 0))

/-- Unsigned comparison (40_wideword_alu.md R103). -/
def cmpWide (a b : Wide) : Ordering :=
  if a.toNat < b.toNat then .lt else if a.toNat = b.toNat then .eq else .gt

/-- `if n ≥ 256: 0 else (a * 2^n) mod M` (40_wideword_alu.md R108). -/
def shlWide (a : Wide) (n : Nat) : Wide :=
  if 256 ≤ n then 0 else BitVec.ofNat 256 (a.toNat * 2 ^ n)

/-- `if n ≥ 256: 0 else a div 2^n` (40_wideword_alu.md R109). -/
def shrWide (a : Wide) (n : Nat) : Wide :=
  if 256 ≤ n then 0 else BitVec.ofNat 256 (a.toNat / 2 ^ n)

/-- A result of two fields, the word and the carry or borrow. -/
def carryResult (p : Wide × Bool) : Result := .wideCarry p.1 p.2

/-- WW.ADD (40_wideword_alu.md R101). -/
def execWwAdd (a b : Nat) (c : Bool) (s : State) : Answer :=
  withWide a s fun a => withWide b s fun b => answer (carryResult (addWide a b c)) s

/-- WW.SUB (40_wideword_alu.md R102). -/
def execWwSub (a b : Nat) (c : Bool) (s : State) : Answer :=
  withWide a s fun a => withWide b s fun b => answer (carryResult (subWide a b c)) s

/-- WW.CMP (40_wideword_alu.md R103). -/
def execWwCmp (a b : Nat) (s : State) : Answer :=
  withWide a s fun a => withWide b s fun b => answer (.ord (cmpWide a b)) s

/-- WW.AND (40_wideword_alu.md R104). -/
def execWwAnd (a b : Nat) (s : State) : Answer :=
  withWide a s fun a => withWide b s fun b => answer (.wide (a &&& b)) s

/-- WW.OR (40_wideword_alu.md R105). -/
def execWwOr (a b : Nat) (s : State) : Answer :=
  withWide a s fun a => withWide b s fun b => answer (.wide (a ||| b)) s

/-- WW.XOR (40_wideword_alu.md R106). -/
def execWwXor (a b : Nat) (s : State) : Answer :=
  withWide a s fun a => withWide b s fun b => answer (.wide (a ^^^ b)) s

/-- WW.NOT (40_wideword_alu.md R107). -/
def execWwNot (a : Nat) (s : State) : Answer :=
  withWide a s fun a => answer (.wide (~~~a)) s

/-- WW.SHL (40_wideword_alu.md R108). -/
def execWwShl (a n : Nat) (s : State) : Answer :=
  withWide a s fun a => answer (.wide (shlWide a n)) s

/-- WW.SHR (40_wideword_alu.md R109). -/
def execWwShr (a n : Nat) (s : State) : Answer :=
  withWide a s fun a => answer (.wide (shrWide a n)) s

/-- WW.GETLIMB (40_wideword_alu.md R110). -/
def execWwGetLimb (a i : Nat) (s : State) : Answer :=
  withWide a s fun a => requireIndex 8 i s (answer (.limb (limb a i)) s)

/-- WW.SETLIMB (40_wideword_alu.md R111). -/
def execWwSetLimb (a i x : Nat) (s : State) : Answer :=
  withWide a s fun a => requireIndex 8 i s (requireRange (2 ^ 32) x s
    (answer (.wide (withLimb a i (BitVec.ofNat 32 x))) s))

/-- WW.SETHLIMB (40_wideword_alu.md R112). -/
def execWwSetHLimb (a i : Nat) (u : Bool) (x : Nat) (s : State) : Answer :=
  withWide a s fun a => requireIndex 8 i s (requireRange (2 ^ 16) x s
    (answer (.wide (withHlimb a i u (BitVec.ofNat 16 x))) s))

/-- WW.SETHWORD (40_wideword_alu.md R113). -/
def execWwSetHWord (a h x : Nat) (s : State) : Answer :=
  withWide a s fun a => requireIndex 2 h s (requireRange (2 ^ 128) x s
    (answer (.wide (withHword a h (BitVec.ofNat 128 x))) s))

end Sys2Proof.Machine
end

