-- ==== Sys2Proof/Machine/StepEngine.lean ====
section
/-! DEFINITION. Family 7, STEP and FINISH (spec 47_step_engine.md), the run of an instruction object (00_scope.md
R12, 47_step_engine.md R265) and the driver with nothing queued (70_reset_and_hazards.md R352). -/

namespace Sys2Proof.Machine

/-- FINISH (47_step_engine.md R269). -/
def execFinish (s : State) : Answer := answer .none (s.setFinish true)

/-- A block operation issued by an instruction object: families 0 to 5 and FINISH (60_exceptions.md R320); any
other is refused (70_reset_and_hazards.md R350, R351; log 9). -/
def issue (i : Instr) (s : State) : Answer :=
  match i with
  | .wwAdd a b c => execWwAdd a b c s
  | .wwSub a b c => execWwSub a b c s
  | .wwCmp a b => execWwCmp a b s
  | .wwAnd a b => execWwAnd a b s
  | .wwOr a b => execWwOr a b s
  | .wwXor a b => execWwXor a b s
  | .wwNot a => execWwNot a s
  | .wwShl a n => execWwShl a n s
  | .wwShr a n => execWwShr a n s
  | .wwGetLimb a i => execWwGetLimb a i s
  | .wwSetLimb a i x => execWwSetLimb a i x s
  | .wwSetHLimb a i u x => execWwSetHLimb a i u x s
  | .wwSetHWord a h x => execWwSetHWord a h x s
  | .rfGet id => execRfGet id s
  | .rfSet id v g => execRfSet id v g s
  | .rfGetLimb id i => execRfGetLimb id i s
  | .rfSetLimb id i x => execRfSetLimb id i x s
  | .rfGetHLimb id i u => execRfGetHLimb id i u s
  | .rfSetHLimb id i u x => execRfSetHLimb id i u x s
  | .rfGetHWord id h => execRfGetHWord id h s
  | .rfSetHWord id h x => execRfSetHWord id h x s
  | .rfGetQWord id q => execRfGetQWord id q s
  | .rfSetQWord id q x => execRfSetQWord id q x s
  | .csrGet n => execCsrGet n s
  | .csrSet n x => execCsrSet n x s
  | .wsrGet n => execWsrGet n s
  | .wsrSet n v => execWsrSet n v s
  | .gprGet i => execGprGet i s
  | .gprSet i x => execGprSet i x s
  | .gprInc i => execGprInc i s
  | .gprIncWb i => execGprIncWb i s
  | .flagGet f => execFlagGet f s
  | .flagSet f b => execFlagSet f b s
  | .flagGetP => execFlagGetP s
  | .flagSetP p => execFlagSetP p s
  | .flagSetW v => execFlagSetW v s
  | .flagSetXW v => execFlagSetXW v s
  | .flagSetZml v => execFlagSetZml v s
  | .flagSetXZml v => execFlagSetXZml v s
  | .flagSetCm v => execFlagSetCm v s
  | .flagSetXCm v => execFlagSetXCm v s
  | .flagSetL v => execFlagSetL v s
  | .flagSetXL v => execFlagSetXL v s
  | .dmemGet a => execDmemGet a s
  | .dmemSet a v => execDmemSet a v s
  | .dmemGetLimb b => execDmemGetLimb b s
  | .dmemSetLimb b x => execDmemSetLimb b x s
  | .imemFetch a => execImemFetch a s
  | .loopPush c e b => execLoopPush c e b s
  | .loopDec => execLoopDec s
  | .loopPop => execLoopPop s
  | .loopTopEnd => execLoopTopEnd s
  | .loopTopStart => execLoopTopStart s
  | .callPush a => execCallPush a s
  | .callPop => execCallPop s
  | .finish => execFinish s
  | .bpToggle _ _ => .refused (.notIssuable 0x60)
  | .bpEval _ => .refused (.notIssuable 0x61)
  | .fbArm _ => .refused (.notIssuable 0x62)
  | .fbEval => .refused (.notIssuable 0x63)
  | .step => .refused (.notIssuable 0x70)
  | .reset => .refused (.notIssuable 0x72)
  | .clearRegs => .refused (.notIssuable 0x73)

/-! ### The instruction object's program (00_scope.md R12; log 7, log 8, log 25) -/

/-- What the results before it give an instruction object: a number, a fetched instruction object, or the trace string
of a nested run, which it can only pass on (60_exceptions.md R324). -/
inductive Value where
  | num (n : Nat)
  | obj (o : InstrObj)
  | trace (s : String)
deriving DecidableEq, Repr

/-- The values a result binds, one per result field (30_encoding.md R72); the compare result as its 2-bit number
(40_wideword_alu.md R103; log 8). -/
def resultValues : Result → List Value
  | .none => []
  | .wideCarry r c => [.num r.toNat, .num c.toNat]
  | .wide v => [.num v.toNat]
  | .ord .lt => [.num 3]
  | .ord .eq => [.num 0]
  | .ord .gt => [.num 1]
  | .limb x => [.num x.toNat]
  | .halfLimb x => [.num x.toNat]
  | .quarterWord x => [.num x.toNat]
  | .halfWord x => [.num x.toNat]
  | .bit b => [.num b.toNat]
  | .packed p => [.num p.toNat]
  | .obj o => [.obj o]
  | .stepDone _ _ _ _ => []

/-- The values a nested run binds: its trace string, and its target as three numbers, whether there is one, whether it
is negative, and its magnitude (log 25). -/
def runValues (trace : String) : Option Int → List Value
  | none => [.trace trace, .num 0, .num 0, .num 0]
  | some (.ofNat n) => [.trace trace, .num 1, .num 0, .num n]
  | some (.negSucc n) => [.trace trace, .num 1, .num 1, .num (n + 1)]

/-- The instruction object that result k is. -/
def objAt (env : List Value) (k : Nat) : Option InstrObj :=
  match env[k]? with
  | some (.obj o) => some o
  | _ => none

/-- The value of a text. A fetched object shows its mnemonic and its assembler string, and no cycle count: "neither can
be read by a program" (60_exceptions.md R321). -/
def evalText (env : List Value) : Text → Option String
  | .lit s => some s
  | .mnemonic k => (objAt env k).map InstrObj.mnemonic
  | .asmStr k => (objAt env k).map InstrObj.asmStr
  | .append a b => Option.map₂ (· ++ ·) (evalText env a) (evalText env b)

/-- The trace string that a leaf returns (00_scope.md R12; log 25). -/
def evalTrace (env : List Value) : Trace → Option String
  | .text t => evalText env t
  | .nested k =>
    match env[k]? with
    | some (.trace s) => some s
    | _ => none
  | .append a b => Option.map₂ (· ++ ·) (evalTrace env a) (evalTrace env b)

/-- The value of an expression over the results bound so far; none when it names one not bound, or no number. -/
def evalExpr (env : List Value) : Expr → Option Nat
  | .lit n => some n
  | .res k =>
    match env[k]? with
    | some (.num n) => some n
    | _ => none
  | .add a b => Option.map₂ (· + ·) (evalExpr env a) (evalExpr env b)
  | .monus a b => Option.map₂ (· - ·) (evalExpr env a) (evalExpr env b)
  | .mul a b => Option.map₂ (· * ·) (evalExpr env a) (evalExpr env b)
  | .shl a b => Option.map₂ (· <<< ·) (evalExpr env a) (evalExpr env b)
  | .shr a b => Option.map₂ (· >>> ·) (evalExpr env a) (evalExpr env b)
  | .land a b => Option.map₂ (· &&& ·) (evalExpr env a) (evalExpr env b)
  | .lor a b => Option.map₂ (· ||| ·) (evalExpr env a) (evalExpr env b)
  | .xor a b => Option.map₂ (· ^^^ ·) (evalExpr env a) (evalExpr env b)
  | .eq a b => Option.map₂ (fun x y => (decide (x = y)).toNat) (evalExpr env a) (evalExpr env b)
  | .lt a b => Option.map₂ (fun x y => (decide (x < y)).toNat) (evalExpr env a) (evalExpr env b)
  | .ite c a b =>
    match evalExpr env c with
    | none => none
    | some 0 => evalExpr env b
    | some _ => evalExpr env a
  | .same a b => Option.map₂ (fun x y => (decide (x = y)).toNat) (evalText env a) (evalText env b)

/-- The values of a list of expressions. -/
def evalArgs (env : List Value) : List Expr → Option (List Nat)
  | [] => some []
  | a :: as => Option.map₂ List.cons (evalExpr env a) (evalArgs env as)

/-- The target of a `next_pc`, none or an integer (00_scope.md R12). -/
def evalNext (env : List Value) : NextPc → Option (Option Int)
  | .none => some none
  | .target e => (evalExpr env e).map fun v => some (v : Int)
  | .negative e => (evalExpr env e).map fun v => some (-(v : Int))

/-- What a leaf returns: the trace string and the target (00_scope.md R12). -/
def evalDone (env : List Value) (trace : Trace) (next : NextPc) : Option (String × Option Int) :=
  Option.map₂ Prod.mk (evalTrace env trace) (evalNext env next)

/-- How the run of an instruction object ends: it returns its trace string and target, an operation raises an
error, or the run stops without a meaning. The diagnostics are those emitted so far (92_eei_decisions.md D33). -/
inductive RunEnd where
  | returned (trace : String) (req : Option Int) (diags : List Diag) (s : State)
  | raised (e : Err) (diags : List Diag) (s : State)
  | stopped (a : Answer)

/-- A program against the block, given how it runs the program of a fetched object: each operation is complete before
the next (47_step_engine.md R265), and an error ends the run at once with nothing rolled back (60_exceptions.md R310,
R311). -/
def runWith (nested : Prog → List Diag → State → RunEnd) : Prog → List Value → List Diag → State → RunEnd
  | .done trace next, env, ds, s =>
    match evalDone env trace next with
    | some out => .returned out.1 out.2 ds s
    | none => .stopped (.refused .unboundResult)
  | .call op args rest, env, ds, s =>
    match evalArgs env args with
    | none => .stopped (.refused .unboundResult)
    | some vs =>
      match serve issue ⟨op, vs⟩ s with
      | .next t =>
        match t.response.err with
        | some e => .raised e (ds ++ t.response.diags) t
        | none => runWith nested rest (env ++ resultValues t.response.result) (ds ++ t.response.diags) t
      | a => .stopped a
  | .branch c t e, env, ds, s =>
    match evalExpr env c with
    | none => .stopped (.refused .unboundResult)
    | some 0 => runWith nested e env ds s
    | some _ => runWith nested t env ds s
  | .run k rest, env, ds, s =>
    match objAt env k with
    | none => .stopped (.refused .unboundResult)
    | some o =>
      match nested o.exec ds s with
      | .returned trace req ds' t => runWith nested rest (env ++ runValues trace req) ds' t
      | ended => ended

/-- A program that runs the programs of fetched objects to a depth of at most `depth` (00_scope.md R12, "a finite
interactive program"; log 25). -/
def runProg : Nat → Prog → List Value → List Diag → State → RunEnd
  | 0 => runWith fun _ _ _ => .stopped (.refused .notFinite)
  | depth + 1 => runWith fun p ds s => runProg depth p [] ds s

/-- Step 5 of STEP, "run ins.exec against the block" (47_step_engine.md R265). -/
def runIns (ins : InstrObj) (s : State) : RunEnd := runProg ins.nesting ins.exec [] [] s

/-! ### The eight steps (47_step_engine.md R261) -/

/-- Step 1, the tentative halt (47_step_engine.md R262). -/
def haltTest (s : State) : Bool := decide ((s.pc : Int) = s.stopAddr) || s.finish

/-- Step 4, one count for the mnemonic (47_step_engine.md R264). -/
def countMnemonic (name : String) (s : State) : State :=
  s.setHist (mapPut name ((mapGet name s.hist).getD 0 + 1) s.hist)

/-- Step 6, the loop-tail override (47_step_engine.md R267). -/
def loopTail (req : Option Int) (s : State) : Option Int × State :=
  match s.topLoop with
  | .error _ => (req, s)
  | .ok e =>
    if s.pc = e.endAddr.toNat then
      if (s.decLoop e).1 then (some (e.start.toNat : Int), (s.decLoop e).2) else (none, s.dropLoop)
    else (req, s)

/-- Step 7, the next pc: whether the run continues and the state with pc moved, or InvalidJump
(47_step_engine.md R266). -/
def nextPc (req : Option Int) (s : State) : Except Err (Bool × State) :=
  match req with
  | some t =>
    if 0 ≤ t ∧ t < (s.params.imem.length : Int) then .ok (true, s.setPc t.toNat)
    else .error (.invalidJump t)
  | none => if s.pc + 1 < s.params.imem.length then .ok (true, s.setPc (s.pc + 1)) else .ok (false, s)

/-- Steps 6 to 8 and the result of STEP (47_step_engine.md R261, R266 to R268). -/
def finishStep (halt0 hit : Bool) (trace : String) (cycles : Nat) (ds : List Diag) (req : Option Int) (s : State) :
    Answer :=
  match nextPc (loopTail req s).1 (loopTail req s).2 with
  | .ok (cont, t) => answerWith ds (.stepDone (cont && !halt0) trace cycles hit) t
  | .error e => raiseAfter ds e (loopTail req s).2

/-- Steps 4 to 8 for the fetched instruction object (47_step_engine.md R261). -/
def runObj (halt0 hit : Bool) (ins : InstrObj) (s : State) : Answer :=
  match runIns ins (countMnemonic ins.mnemonic s) with
  | .returned trace req ds t => finishStep halt0 hit trace ins.cycles ds req t
  | .raised e ds t => raiseAfter ds e t
  | .stopped a => a

/-- Steps 2 and 3, the triggers, both always, in this order: the combined report and the state after them
(47_step_engine.md R263, 46_debug_triggers.md R245). -/
def evalTriggers (s : State) : Bool × State :=
  let bp := evalBp s.pc (evalFb s).2
  ((evalFb s).1 || bp.1, bp.2)

/-- STEP (47_step_engine.md R261). The fetch of step 3a is IMEM.FETCH's read, with its IndexError (R264, R204). -/
def execStep (s : State) : Answer :=
  match s.params.imem[s.pc]? with
  | some ins => runObj (haltTest s) (evalTriggers s).1 ins (evalTriggers s).2
  | none => raise (.indexError s.pc) (evalTriggers s).2

/-! ### The driver's record of its run (47_step_engine.md R260; log 2) -/

/-- The driver's record after a STEP that left the state s: halted exactly when this STEP returned cont = 0
(47_step_engine.md R260), faulted from the first error on (60_exceptions.md R312). -/
def State.runAfter (s : State) : RunRecord where
  halted :=
    match s.response.result with
    | .stepDone false _ _ _ => true
    | _ => false
  faulted := s.run.faulted.or s.response.err

/-- An operation called by the driver: a STEP's outcome goes into the driver's record, any other operation is no part
of a run (47_step_engine.md R260; log 2). -/
def callOp (run : Instr → State → Answer) (i : Instr) (s : State) : Answer :=
  match i, run i s with
  | .step, .next t => .next (t.setRun t.runAfter)
  | _, a => a

/-- The driver with nothing queued, doing its duties (70_reset_and_hazards.md R352): it calls STEP; it treats
cont = 0 as the end of the run and leaves the machine as it is; after an error it aborts, the run being faulted
(60_exceptions.md R312; log 2). -/
def driverIdle (run : Instr → State → Answer) (s : State) : Answer :=
  match s.run.faulted with
  | some e => .fault (.runFaulted e)
  | none => if s.run.halted then .next s else run .step s

end Sys2Proof.Machine
end

