-- ==== Sys2Proof/Machine/Dispatch.lean ====
section
/-! DEFINITION. The dispatch: one arm per block operation of the selector map (spec 30_encoding.md R75), in its order. -/

namespace Sys2Proof.Machine

/-- The meaning of a block operation. -/
def exec (i : Instr) (s : State) : Host.Outcome State Fault Refusal :=
  match i with
  | .wwAdd a b c => Sys2Proof.Machine.execWwAdd a b c s
  | .wwSub a b c => Sys2Proof.Machine.execWwSub a b c s
  | .wwCmp a b => Sys2Proof.Machine.execWwCmp a b s
  | .wwAnd a b => Sys2Proof.Machine.execWwAnd a b s
  | .wwOr a b => Sys2Proof.Machine.execWwOr a b s
  | .wwXor a b => Sys2Proof.Machine.execWwXor a b s
  | .wwNot a => Sys2Proof.Machine.execWwNot a s
  | .wwShl a n => Sys2Proof.Machine.execWwShl a n s
  | .wwShr a n => Sys2Proof.Machine.execWwShr a n s
  | .wwGetLimb a k => Sys2Proof.Machine.execWwGetLimb a k s
  | .wwSetLimb a k x => Sys2Proof.Machine.execWwSetLimb a k x s
  | .wwSetHLimb a k u x => Sys2Proof.Machine.execWwSetHLimb a k u x s
  | .wwSetHWord a h x => Sys2Proof.Machine.execWwSetHWord a h x s
  | .rfGet id => Sys2Proof.Machine.execRfGet id s
  | .rfSet id v g => Sys2Proof.Machine.execRfSet id v g s
  | .rfGetLimb id k => Sys2Proof.Machine.execRfGetLimb id k s
  | .rfSetLimb id k x => Sys2Proof.Machine.execRfSetLimb id k x s
  | .rfGetHLimb id k u => Sys2Proof.Machine.execRfGetHLimb id k u s
  | .rfSetHLimb id k u x => Sys2Proof.Machine.execRfSetHLimb id k u x s
  | .rfGetHWord id h => Sys2Proof.Machine.execRfGetHWord id h s
  | .rfSetHWord id h x => Sys2Proof.Machine.execRfSetHWord id h x s
  | .rfGetQWord id q => Sys2Proof.Machine.execRfGetQWord id q s
  | .rfSetQWord id q x => Sys2Proof.Machine.execRfSetQWord id q x s
  | .csrGet n => Sys2Proof.Machine.execCsrGet n s
  | .csrSet n x => Sys2Proof.Machine.execCsrSet n x s
  | .wsrGet n => Sys2Proof.Machine.execWsrGet n s
  | .wsrSet n v => Sys2Proof.Machine.execWsrSet n v s
  | .gprGet k => Sys2Proof.Machine.execGprGet k s
  | .gprSet k x => Sys2Proof.Machine.execGprSet k x s
  | .gprInc k => Sys2Proof.Machine.execGprInc k s
  | .gprIncWb k => Sys2Proof.Machine.execGprIncWb k s
  | .flagGet f => Sys2Proof.Machine.execFlagGet f s
  | .flagSet f b => Sys2Proof.Machine.execFlagSet f b s
  | .flagGetP => Sys2Proof.Machine.execFlagGetP s
  | .flagSetP p => Sys2Proof.Machine.execFlagSetP p s
  | .flagSetW v => Sys2Proof.Machine.execFlagSetW v s
  | .flagSetXW v => Sys2Proof.Machine.execFlagSetXW v s
  | .flagSetZml v => Sys2Proof.Machine.execFlagSetZml v s
  | .flagSetXZml v => Sys2Proof.Machine.execFlagSetXZml v s
  | .flagSetCm v => Sys2Proof.Machine.execFlagSetCm v s
  | .flagSetXCm v => Sys2Proof.Machine.execFlagSetXCm v s
  | .flagSetL v => Sys2Proof.Machine.execFlagSetL v s
  | .flagSetXL v => Sys2Proof.Machine.execFlagSetXL v s
  | .dmemGet a => Sys2Proof.Machine.execDmemGet a s
  | .dmemSet a v => Sys2Proof.Machine.execDmemSet a v s
  | .dmemGetLimb b => Sys2Proof.Machine.execDmemGetLimb b s
  | .dmemSetLimb b x => Sys2Proof.Machine.execDmemSetLimb b x s
  | .imemFetch a => Sys2Proof.Machine.execImemFetch a s
  | .loopPush c e b => Sys2Proof.Machine.execLoopPush c e b s
  | .loopDec => Sys2Proof.Machine.execLoopDec s
  | .loopPop => Sys2Proof.Machine.execLoopPop s
  | .loopTopEnd => Sys2Proof.Machine.execLoopTopEnd s
  | .loopTopStart => Sys2Proof.Machine.execLoopTopStart s
  | .callPush a => Sys2Proof.Machine.execCallPush a s
  | .callPop => Sys2Proof.Machine.execCallPop s
  | .bpToggle addr passes => Sys2Proof.Machine.execBpToggle addr passes s
  | .bpEval addr => Sys2Proof.Machine.execBpEval addr s
  | .fbArm cond => Sys2Proof.Machine.execFbArm cond s
  | .fbEval => Sys2Proof.Machine.execFbEval s
  | .step => Sys2Proof.Machine.execStep s
  | .finish => Sys2Proof.Machine.execFinish s
  | .reset => Sys2Proof.Machine.execReset s
  | .clearRegs => Sys2Proof.Machine.execClearRegs s

end Sys2Proof.Machine
end

