-- ==== Sys2Proof/Machine/Step.lean ====
section
/-! DEFINITION. One step of the machine: the next call of the driver (spec 60_exceptions.md R320, 70_reset_and_hazards.md
R349, R352; log 1), and where a table word is placed to be the next one. -/

namespace Sys2Proof.Machine

/-- The next call of the driver's queue, or the driver with nothing queued. -/
def step (s : State) : Host.Outcome State Fault Refusal :=
  match s.driver with
  | .request r :: rest => serve (callOp exec) r (s.setDriver rest)
  | .toggleLabel label passes :: rest => serveLabel exec label passes (s.setDriver rest)
  | [] => driverIdle (callOp exec) s

/-- s with the record of the table's word (every operand field 0, log 11) at the head of the driver's queue. -/
def State.withFetchWord (s : State) (_nbits w : Nat) : State :=
  s.setDriver (.request (tableRequest w) :: s.driver)

end Sys2Proof.Machine
end

