-- ==== Sys2Proof/Safety.lean ====
section
/-! DEFINITION. The invariants of the block (spec 10_state.md R42), what a run is (47_step_engine.md R260) and which
runs are safe: those in which no error is raised (60_exceptions.md R312). -/

namespace Sys2Proof.Machine

/-- "Invariants that hold after reset and after every operation, error or not" (10_state.md R42), with the canonical
forms of the lists that stand for memory and the two maps. The ranges that a field's type gives need no line. The pc
is in range when the construction inputs meet their requirements (70_reset_and_hazards.md R341; State.reset loads no
program, log 5). -/
structure State.Inv (s : State) : Prop where
  memWf : s.dmem.wf
  memBounded : ∀ c ∈ s.dmem, c.1 < dmemBytes
  callDepth : s.cs.length ≤ stackDepth
  loopDepth : s.ls.length ≤ stackDepth
  rndConstant : s.sp.rnd = rndSentinel
  oneCondition : ¬(s.fb.useCall = true ∧ s.fb.useLoop = true)
  bpSorted : MapSorted s.bp
  bpCounters : ∀ p ∈ s.bp, 1 ≤ p.2.counter ∧ p.2.counter ≤ p.2.required
  histSorted : MapSorted s.hist
  histPositive : ∀ p ∈ s.hist, 1 ≤ p.2
  pcInRange : s.params.valid = true → s.pc < s.params.imem.length
  initFits : s.params.dmemInit.length ≤ dmemDepth

/-- The last request raised no error (30_encoding.md R71). -/
def State.noError (s : State) : Prop := s.response.err = none

/-- `k` steps of the machine, stopping at the first that gives no next state. -/
def runSteps : Nat → State → Answer
  | 0, s => .next s
  | k + 1, s =>
    match step s with
    | .next t => runSteps k t
    | a => a

/-- Every one of the first `k` steps gives a next state in which no error was raised (60_exceptions.md R312: "a claim
about a program takes 'no error raised' as a premise"). -/
def SafeFor (k : Nat) (s : State) : Prop :=
  ∀ j ≤ k, ∃ t, runSteps j s = .next t ∧ t.noError

/-- Halted: the last STEP returned cont = 0, whatever the driver has called since (47_step_engine.md R260). -/
def State.ended (s : State) : Prop := s.run.halted = true

end Sys2Proof.Machine
end

