-- ==== Sys2Proof/Certificates/Slice0/Obligations.lean ====
section
/-! DEFINITION. The statements for the provers, from the numbered rules of the spec. Where a statement's conclusion is
`exec i s = .next (s.setResponse …)`, the whole next state is given: every field but the response, and so every
register, flag, stack and byte of memory, is as before. -/

open Sys2Proof Sys2Proof.Machine

namespace Sys2Proof.Claims

/-- The response with result r, no error and no diagnostic (30_encoding.md R71). -/
def said (r : Result) : Response := ⟨r, none, []⟩

/-- The response with error e (30_encoding.md R71). -/
def failed (e : Err) : Response := ⟨.none, some e, []⟩

/-- The special names in the order of their codes 0 to 5 (30_encoding.md R73). -/
def specialNames : List SpecialReg := [.mod, .dmp, .rfp, .lc, .rnd, .acc]

/-- The register id names the target (30_encoding.md R73). -/
def Names : RegId → Target → Prop
  | .general n, .general m => n = m.val
  | .special c, .special r => specialNames[c]? = some r
  | _, _ => False

/-- m lists the slots among the `count` from lo on that are not valid in register n (41_register_file.md R133), in
rising order, which is the model's form of a set (log 18). -/
def Missing (s : State) (n : Fin 32) (lo count : Nat) (m : List Nat) : Prop :=
  m.Pairwise (· < ·) ∧ ∀ k, k ∈ m ↔ lo ≤ k ∧ k < lo + count ∧ (s.valid[n.val]).getLsbD k = false

/-- The response of a read with result r whose diagnostic is d, under the state's policy (60_exceptions.md R308,
R309). -/
def readResponse (s : State) (d : Option Diag) (r : Result) : Response :=
  match d, s.config.uninitRead with
  | none, _ => said r
  | some d, .warn => ⟨r, none, [d]⟩
  | some d, .strict => failed (.uninitRead d)

/-- The flags in the order of their ids 0 to 7 (30_encoding.md R73). -/
def flagList (f : Flags) : List Bool := [f.c, f.l, f.m, f.z, f.xc, f.xl, f.xm, f.xz]

/-- The diagnostic of a read of register n in which the slots m are missing (41_register_file.md R133). -/
def missingDiag (n : Fin 32) (m : List Nat) : Option Diag :=
  if m = [] then none else some (.uninitReg n.val m)

/-- Bits lo to lo+w-1 of v are those of x. -/
def BitsFrom {w : Nat} (x : BitVec w) (v : Wide) (lo : Nat) : Prop := ∀ j < w, x.getLsbD j = v.getLsbD (lo + j)

/-- v' is v with bits lo to lo+w-1 replaced by the low bits of x (00_scope.md R8). -/
def Replaced (v v' : Wide) (lo w x : Nat) : Prop :=
  ∀ k < 256, v'.getLsbD k = if lo ≤ k ∧ k < lo + w then x.testBit (k - lo) else v.getLsbD k

/-- t is s after a store to the target t0 of x at bits lo to lo+w-1 that marks the `count` slots from `slot` on when
t0 is a general register: every other register, every other validity bit and every other field is as before
(41_register_file.md R131). -/
def Stored (s t : State) (t0 : Target) (lo w x slot count : Nat) : Prop :=
  Replaced (s.cur t0) (t.cur t0) lo w x ∧
  (∀ u, u ≠ t0 → t.cur u = s.cur u) ∧
  (∀ (m : Fin 32) (k : Nat), (t.valid[m.val]).getLsbD k =
    ((s.valid[m.val]).getLsbD k || decide (t0 = .general m ∧ slot ≤ k ∧ k < slot + count))) ∧
  t = (((s.setW t.w).setValid t.valid).setSp t.sp).setResponse (said .none)

/-- The response of a DMEM read of cell a with result r (44_memory_ops.md R200, R202). -/
def cellResponse (s : State) (a : Nat) (r : Result) : Response :=
  readResponse s (if s.dinit.getLsbD a then none else some (.uninitCell a)) r

/-- The loop stack's top entry, if there is one, does not end at the pc (47_step_engine.md R267). -/
def NotLoopTail (s : State) : Prop := ∀ e, s.ls.getLast? = some e → s.pc ≠ e.endAddr.toNat

/-- u is the state in which STEP runs the instruction object `ins`, and `hit` the report of its triggers: after
FB.EVAL, BP.EVAL at the pc and one count for the mnemonic (47_step_engine.md R261 steps 2 to 4; stated out in
`Obligations.StepEntersWithTriggersAndCount`). -/
def Entered (s u : State) (ins : InstrObj) (hit : Bool) : Prop :=
  s.params.imem[s.pc]? = some ins ∧ hit = (evalTriggers s).1 ∧ u = countMnemonic ins.mnemonic (evalTriggers s).2

/-- The run is to end after the instruction at the pc (47_step_engine.md R262). -/
def Halting (s : State) : Prop := (s.pc : Int) = s.stopAddr ∨ s.finish = true

/-- What a result binds for the operations after it: its numbers in the order of its fields (30_encoding.md R72), the
compare result as 3, 0 or 1 (40_wideword_alu.md R103), a fetched object as the object (log 8). -/
def BindsResults : Prop :=
  resultValues .none = [] ∧ (∀ r c, resultValues (.wideCarry r c) = [.num r.toNat, .num (if c then 1 else 0)]) ∧
  (∀ v, resultValues (.wide v) = [.num v.toNat]) ∧
  (∀ c, resultValues (.ord c) = [.num (match c with | .lt => 3 | .eq => 0 | .gt => 1)]) ∧
  (∀ x, resultValues (.limb x) = [.num x.toNat]) ∧ (∀ x, resultValues (.halfLimb x) = [.num x.toNat]) ∧
  (∀ x, resultValues (.quarterWord x) = [.num x.toNat]) ∧ (∀ x, resultValues (.halfWord x) = [.num x.toNat]) ∧
  (∀ b, resultValues (.bit b) = [.num (if b then 1 else 0)]) ∧ (∀ p, resultValues (.packed p) = [.num p.toNat]) ∧
  (∀ o, resultValues (.obj o) = [.obj o])

/-- What a nested run binds: its trace string, whether it has a target, whether that is negative, and its magnitude
(log 25). -/
def BindsNestedRun : Prop :=
  ∀ trace : String, runValues trace none = [.trace trace, .num 0, .num 0, .num 0] ∧
    ∀ t : Int, runValues trace (some t) = [.trace trace, .num 1, .num (if t < 0 then 1 else 0), .num t.natAbs]

/-- What the expressions and texts of an instruction object give when the results so far are env (log 7, log 8): a bound
number is itself, a fetched object shows its mnemonic and its assembler string and is no number. -/
def Computes (env : List Value) : Prop :=
  (∀ n, evalExpr env (.lit n) = some n) ∧ (∀ k n, env[k]? = some (.num n) → evalExpr env (.res k) = some n) ∧
  (∀ a b x y, evalExpr env a = some x → evalExpr env b = some y →
    evalExpr env (.add a b) = some (x + y) ∧ evalExpr env (.monus a b) = some (x - y) ∧
    evalExpr env (.mul a b) = some (x * y) ∧ evalExpr env (.shl a b) = some (x * 2 ^ y) ∧
    evalExpr env (.shr a b) = some (x / 2 ^ y) ∧ evalExpr env (.land a b) = some (x &&& y) ∧
    evalExpr env (.lor a b) = some (x ||| y) ∧ evalExpr env (.xor a b) = some (x ^^^ y) ∧
    evalExpr env (.eq a b) = some (if x = y then 1 else 0) ∧
    evalExpr env (.lt a b) = some (if x < y then 1 else 0)) ∧
  (∀ c a b n, evalExpr env c = some n → evalExpr env (.ite c a b) = evalExpr env (if n = 0 then b else a)) ∧
  (∀ s, evalText env (.lit s) = some s) ∧
  (∀ a b x y, evalText env a = some x → evalText env b = some y → evalText env (.append a b) = some (x ++ y) ∧
    evalExpr env (.same a b) = some (if x = y then 1 else 0)) ∧
  (∀ k o, env[k]? = some (.obj o) → evalText env (.mnemonic k) = some o.mnemonic ∧
    evalText env (.asmStr k) = some o.asmStr ∧ evalExpr env (.res k) = none) ∧
  (∀ args vals, evalArgs env args = some vals ↔ args.map (evalExpr env) = vals.map some)

/-- What the leaf of an instruction object gives when the results so far are env: a trace made of texts and of the trace
strings of nested runs, and a target (00_scope.md R12; log 7). -/
def Returns (env : List Value) : Prop :=
  (∀ t, evalTrace env (.text t) = evalText env t) ∧
  (∀ k s, env[k]? = some (.trace s) → evalTrace env (.nested k) = some s) ∧
  (∀ a b x y, evalTrace env a = some x → evalTrace env b = some y → evalTrace env (.append a b) = some (x ++ y)) ∧
  evalNext env .none = some none ∧
  (∀ e n, evalExpr env e = some n →
    evalNext env (.target e) = some (some (n : Int)) ∧ evalNext env (.negative e) = some (some (-(n : Int))))

/-- The value with the cycle count of a fetched object hidden (60_exceptions.md R321). -/
def hideCycles : Value → Value
  | .obj o => .obj { o with cycles := 0 }
  | v => v

/-- The value with the trace string of a nested run hidden (60_exceptions.md R324). -/
def hideTrace : Value → Value
  | .trace _ => .trace ""
  | v => v

/-- The end of a run with the trace string it returns hidden. -/
def endWithoutTrace : RunEnd → RunEnd
  | .returned _ req ds s => .returned "" req ds s
  | e => e

/-- The hits of k evaluations of the breakpoint table at an address, one after another. -/
def hits (addr : Nat) : Nat → State → List Bool
  | 0, _ => []
  | k + 1, s =>
    match exec (.bpEval addr) s with
    | .next t =>
      match t.response.result with
      | .bit b => b :: hits addr k t
      | _ => []
    | _ => []

/-- The selectors the spec lists as unassigned (30_encoding.md R76). -/
def Unassigned (n : Nat) : Prop :=
  (0x0D ≤ n ∧ n ≤ 0x0F) ∨ n = 0x1E ∨ n = 0x1F ∨ (0x24 ≤ n ∧ n ≤ 0x2F) ∨ (0x3C ≤ n ∧ n ≤ 0x3F) ∨
  (0x45 ≤ n ∧ n ≤ 0x4F) ∨ (0x57 ≤ n ∧ n ≤ 0x5F) ∨ (0x64 ≤ n ∧ n ≤ 0x6F) ∨ (0x74 ≤ n ∧ n ≤ 0xFF)

/-- The operations of family 0 (30_encoding.md R75). -/
def isAlu (i : Instr) : Bool := decide ((encode i).opSel.toNat < 0x10)

/-- The operations that write flags or move the whole machine: FLAG.SET, FLAG.SETP, the derived setters, CSR.SET, STEP
and RESET (43_flags.md R180, 70_reset_and_hazards.md R343). -/
def mayWriteFlags (i : Instr) : Bool :=
  [0x1B, 0x31, 0x33, 0x34, 0x35, 0x36, 0x37, 0x38, 0x39, 0x3A, 0x3B, 0x70, 0x72].contains (encode i).opSel.toNat

end Sys2Proof.Claims

open Sys2Proof.Claims

/-! ### Family 0 -/

/-- 40_wideword_alu.md R101: `s = a + b + c; r = s mod M; cout = s div M`. -/
def Obligations.WideAddIsExact : Prop :=
  ∀ (s : State) (a b : Nat) (c : Bool), a < 2 ^ 256 → b < 2 ^ 256 →
    encode (.wwAdd a b c) = ⟨0x00, [a, b, bitValue c]⟩ ∧
    ∃ (r : Wide) (k : Bool), exec (.wwAdd a b c) s = .next (s.setResponse (said (.wideCarry r k))) ∧
      r.toNat + 2 ^ 256 * k.toNat = a + b + c.toNat

/-- 40_wideword_alu.md R102: `d = a - b - c; r = d mod M; bout = 1 if d < 0 else 0`. -/
def Obligations.WideSubIsExact : Prop :=
  ∀ (s : State) (a b : Nat) (c : Bool), a < 2 ^ 256 → b < 2 ^ 256 →
    encode (.wwSub a b c) = ⟨0x01, [a, b, bitValue c]⟩ ∧
    ∃ (r : Wide) (k : Bool), exec (.wwSub a b c) s = .next (s.setResponse (said (.wideCarry r k))) ∧
      (r.toNat : Int) - 2 ^ 256 * (k.toNat : Int) = (a : Int) - b - (c.toNat : Int)

/-- 40_wideword_alu.md R103: unsigned comparison. -/
def Obligations.WideCompareIsUnsigned : Prop :=
  ∀ (s : State) (a b : Nat), a < 2 ^ 256 → b < 2 ^ 256 →
    ∃ o : Ordering, exec (.wwCmp a b) s = .next (s.setResponse (said (.ord o))) ∧
      (o = .lt ↔ a < b) ∧ (o = .eq ↔ a = b) ∧ (o = .gt ↔ b < a)

/-- 40_wideword_alu.md R104 to R107: and, or, xor, not, bit by bit. -/
def Obligations.WideBitwiseBits : Prop :=
  ∀ (s : State) (a b : Nat), a < 2 ^ 256 → b < 2 ^ 256 →
    encode (.wwAnd a b) = ⟨0x03, [a, b]⟩ ∧ encode (.wwOr a b) = ⟨0x04, [a, b]⟩ ∧
    encode (.wwXor a b) = ⟨0x05, [a, b]⟩ ∧ encode (.wwNot a) = ⟨0x06, [a]⟩ ∧
    ∃ x y z n : Wide,
      exec (.wwAnd a b) s = .next (s.setResponse (said (.wide x))) ∧
      exec (.wwOr a b) s = .next (s.setResponse (said (.wide y))) ∧
      exec (.wwXor a b) s = .next (s.setResponse (said (.wide z))) ∧
      exec (.wwNot a) s = .next (s.setResponse (said (.wide n))) ∧
      ∀ i < 256, x.getLsbD i = (a.testBit i && b.testBit i) ∧ y.getLsbD i = (a.testBit i || b.testBit i) ∧
        z.getLsbD i = (a.testBit i ^^ b.testBit i) ∧ n.getLsbD i = !a.testBit i

/-- 40_wideword_alu.md R108, R109: logical shifts by any amount, not reduced modulo 256. That the amount is any
natural number is the spec's decision D13. -/
def Obligations.WideShiftBits : Prop :=
  ∀ (s : State) (a n : Nat), a < 2 ^ 256 →
    ∃ l r : Wide,
      exec (.wwShl a n) s = .next (s.setResponse (said (.wide l))) ∧
      exec (.wwShr a n) s = .next (s.setResponse (said (.wide r))) ∧
      ∀ i < 256, l.getLsbD i = (decide (n ≤ i) && a.testBit (i - n)) ∧
        r.getLsbD i = (decide (i + n ≤ 255) && a.testBit (i + n))

/-- 40_wideword_alu.md R110, R111: GETLIMB gives the limb of its operand; a limb set is got back, and every other limb
is the operand's; a limb index above 7 is an IndexError, then a limb of 2^32 or more a RangeError. -/
def Obligations.LimbSetThenGet : Prop :=
  ∀ (s : State) (a i x : Nat), a < 2 ^ 256 →
    encode (.wwGetLimb a i) = ⟨0x09, [a, i]⟩ ∧ encode (.wwSetLimb a i x) = ⟨0x0A, [a, i, x]⟩ ∧
    (i < 8 → ∃ y : Limb, exec (.wwGetLimb a i) s = .next (s.setResponse (said (.limb y))) ∧
      y.toNat = a / 2 ^ (32 * i) % 2 ^ 32) ∧
    (i < 8 → x < 2 ^ 32 →
      ∃ v : Wide, exec (.wwSetLimb a i x) s = .next (s.setResponse (said (.wide v))) ∧
        ∀ j < 8, ∃ y : Limb, exec (.wwGetLimb v.toNat j) s = .next (s.setResponse (said (.limb y))) ∧
          y.toNat = if j = i then x else a / 2 ^ (32 * j) % 2 ^ 32) ∧
    (8 ≤ i → exec (.wwGetLimb a i) s = .next (s.setResponse (failed (.indexError i))) ∧
      exec (.wwSetLimb a i x) s = .next (s.setResponse (failed (.indexError i)))) ∧
    (i < 8 → 2 ^ 32 ≤ x → exec (.wwSetLimb a i x) s = .next (s.setResponse (failed (.rangeError x))))

/-- 40_wideword_alu.md R112, R113: only the named half-limb or half-word is replaced. The index order is the spec's
decision D34. -/
def Obligations.HalfPartsReplaced : Prop :=
  ∀ (s : State) (a : Nat), a < 2 ^ 256 →
    (∀ (i x : Nat) (u : Bool), i < 8 → x < 2 ^ 16 → ∃ v : Wide,
      exec (.wwSetHLimb a i u x) s = .next (s.setResponse (said (.wide v))) ∧
      Replaced (BitVec.ofNat 256 a) v (32 * i + (if u then 16 else 0)) 16 x) ∧
    (∀ h x : Nat, h < 2 → x < 2 ^ 128 → ∃ v : Wide,
      exec (.wwSetHWord a h x) s = .next (s.setResponse (said (.wide v))) ∧
      Replaced (BitVec.ofNat 256 a) v (128 * h) 128 x)

/-- 40_wideword_alu.md R100, R110 to R113: an over-wide wide operand is a RangeError before anything else, then the
index is checked, then the new part's width. That order is the spec's decision D12; that of two over-wide wide
operands the first is the one reported is log 17. -/
def Obligations.WideAluChecks : Prop :=
  ∀ (s : State) (a b i x : Nat) (c : Bool),
    (2 ^ 256 ≤ a → ∀ op ∈ [Instr.wwAdd a b c, .wwSub a b c, .wwCmp a b, .wwAnd a b, .wwOr a b, .wwXor a b, .wwNot a,
        .wwShl a b, .wwShr a b, .wwGetLimb a i, .wwSetLimb a i x, .wwSetHLimb a i c x, .wwSetHWord a i x],
      exec op s = .next (s.setResponse (failed (.rangeError a)))) ∧
    (a < 2 ^ 256 → 2 ^ 256 ≤ b → ∀ op ∈ [Instr.wwAdd a b c, .wwSub a b c, .wwCmp a b, .wwAnd a b, .wwOr a b, .wwXor a b],
      exec op s = .next (s.setResponse (failed (.rangeError b)))) ∧
    (a < 2 ^ 256 → 8 ≤ i → ∀ op ∈ [Instr.wwGetLimb a i, .wwSetLimb a i x, .wwSetHLimb a i c x],
      exec op s = .next (s.setResponse (failed (.indexError i)))) ∧
    (a < 2 ^ 256 → 2 ≤ i → exec (.wwSetHWord a i x) s = .next (s.setResponse (failed (.indexError i)))) ∧
    (a < 2 ^ 256 → i < 8 → 2 ^ 32 ≤ x →
      exec (.wwSetLimb a i x) s = .next (s.setResponse (failed (.rangeError x)))) ∧
    (a < 2 ^ 256 → i < 8 → 2 ^ 16 ≤ x →
      exec (.wwSetHLimb a i c x) s = .next (s.setResponse (failed (.rangeError x)))) ∧
    (a < 2 ^ 256 → i < 2 → 2 ^ 128 ≤ x →
      exec (.wwSetHWord a i x) s = .next (s.setResponse (failed (.rangeError x))))

/-- 40_wideword_alu.md R114 (derived laws): subtraction is addition of the complement with the carries inverted, it
undoes an addition, and a shift left then right leaves the low bits. -/
def Obligations.WideArithmeticLaws : Prop :=
  ∀ (s : State) (a b : Nat) (c : Bool), a < 2 ^ 256 → b < 2 ^ 256 →
    (∃ (n r : Wide) (k : Bool), exec (.wwNot b) s = .next (s.setResponse (said (.wide n))) ∧
      exec (.wwAdd a n.toNat (!c)) s = .next (s.setResponse (said (.wideCarry r k))) ∧
      exec (.wwSub a b c) s = .next (s.setResponse (said (.wideCarry r (!k))))) ∧
    (∃ (r : Wide) (k : Bool), exec (.wwAdd a b c) s = .next (s.setResponse (said (.wideCarry r k))) ∧
      exec (.wwSub r.toNat b c) s = .next (s.setResponse (said (.wideCarry (BitVec.ofNat 256 a) k)))) ∧
    (∀ n ≤ 256, ∃ l : Wide, exec (.wwShl a n) s = .next (s.setResponse (said (.wide l))) ∧
      exec (.wwShr l.toNat n) s =
        .next (s.setResponse (said (.wide (BitVec.ofNat 256 (a % 2 ^ (256 - n)))))))

/-- 40_wideword_alu.md R100: an operation of family 0 changes nothing but the response, and its response depends on
its operands alone. -/
def Obligations.WideAluIsPure : Prop :=
  ∀ (i : Instr), isAlu i = true →
    ∃ p : Response, ∀ s : State, exec i s = .next (s.setResponse p)

/-! ### Family 1 -/

/-- 41_register_file.md R133 to R135, R137, R139, R141, 60_exceptions.md R309: what each read of a general register
answers, with one diagnostic that names every missing slot the read covers, or UninitRead under strict. Index 0 of a
half-word and of a quarter-word is the least significant, the spec's decision D34 (log 23); the slots are listed in
rising order by log 18. The slot numbers and the one diagnostic per read are the spec's decisions D10 and D11. -/
def Obligations.GeneralRegisterReads : Prop :=
  ∀ (s : State) (n : Fin 32),
    (∃ m, Missing s n 0 16 m ∧
      exec (.rfGet (.general n.val)) s =
        .next (s.setResponse (readResponse s (missingDiag n m) (.wide s.w[n.val])))) ∧
    (∀ i < 8, ∃ (m : List Nat) (x : Limb), Missing s n (2 * i) 2 m ∧ BitsFrom x s.w[n.val] (32 * i) ∧
      exec (.rfGetLimb (.general n.val) i) s =
        .next (s.setResponse (readResponse s (missingDiag n m) (.limb x)))) ∧
    (∀ (i : Nat) (u : Bool), i < 8 → ∃ (m : List Nat) (x : HalfLimb), Missing s n (2 * i + u.toNat) 1 m ∧
      BitsFrom x s.w[n.val] (32 * i + 16 * u.toNat) ∧
      exec (.rfGetHLimb (.general n.val) i u) s =
        .next (s.setResponse (readResponse s (missingDiag n m) (.halfLimb x)))) ∧
    (∀ h < 2, ∃ (m : List Nat) (x : HalfWord), Missing s n (8 * h) 8 m ∧ BitsFrom x s.w[n.val] (128 * h) ∧
      exec (.rfGetHWord (.general n.val) h) s =
        .next (s.setResponse (readResponse s (missingDiag n m) (.halfWord x)))) ∧
    (∀ q < 4, ∃ (m : List Nat) (x : QuarterWord), Missing s n (4 * q) 4 m ∧ BitsFrom x s.w[n.val] (64 * q) ∧
      exec (.rfGetQWord (.general n.val) q) s =
        .next (s.setResponse (readResponse s (missingDiag n m) (.quarterWord x))))

/-- 41_register_file.md R133 to R141: the reads of the special registers, which never emit a diagnostic. Index 0 of a
half-word and of a quarter-word is the least significant, the spec's decision D34 (log 23). -/
def Obligations.SpecialRegisterReads : Prop :=
  ∀ (s : State),
    exec (.rfGet (.special 0)) s = .next (s.setResponse (said (.wide s.sp.mod))) ∧
    exec (.rfGet (.special 1)) s = .next (s.setResponse (said (.wide s.sp.dmp))) ∧
    exec (.rfGet (.special 2)) s = .next (s.setResponse (said (.wide s.sp.rfp))) ∧
    exec (.rfGet (.special 3)) s = .next (s.setResponse (said (.wide s.sp.lc))) ∧
    exec (.rfGet (.special 4)) s = .next (s.setResponse (said (.wide s.sp.rnd))) ∧
    exec (.rfGet (.special 5)) s = .next (s.setResponse (said (.wide s.sp.acc))) ∧
    ∀ (c : Nat) (r : SpecialReg), specialNames[c]? = some r →
      (∀ i < 8, ∃ x : Limb, BitsFrom x (s.sp.get r) (32 * i) ∧
        exec (.rfGetLimb (.special c) i) s = .next (s.setResponse (said (.limb x)))) ∧
      (∀ (i : Nat) (u : Bool), i < 8 → ∃ x : HalfLimb, BitsFrom x (s.sp.get r) (32 * i + 16 * u.toNat) ∧
        exec (.rfGetHLimb (.special c) i u) s = .next (s.setResponse (said (.halfLimb x)))) ∧
      (∀ h < 2, ∃ x : HalfWord, BitsFrom x (s.sp.get r) (128 * h) ∧
        exec (.rfGetHWord (.special c) h) s = .next (s.setResponse (said (.halfWord x)))) ∧
      (∀ q < 4, ∃ x : QuarterWord, BitsFrom x (s.sp.get r) (64 * q) ∧
        exec (.rfGetQWord (.special c) q) s = .next (s.setResponse (said (.quarterWord x))))

/-- 41_register_file.md R131: RF.SET stores the whole value whatever the granularity is, and marks the slots the
granularity names; a write to a special register marks none. -/
def Obligations.WholeRegisterWrite : Prop :=
  ∀ (s : State) (id : RegId) (t0 : Target) (v : Nat), Names id t0 → t0 ≠ .special .rnd → v < 2 ^ 256 →
    (∃ t, exec (.rfSet id v .full) s = .next t ∧ Stored s t t0 0 256 v 0 16) ∧
    (∀ i < 8, ∃ t, exec (.rfSet id v (.limb i)) s = .next t ∧ Stored s t t0 0 256 v (2 * i) 2) ∧
    (∀ (i : Nat) (u : Bool), i < 8 → ∃ t, exec (.rfSet id v (.halfLimb i u)) s = .next t ∧
      Stored s t t0 0 256 v (2 * i + u.toNat) 1)

/-- 41_register_file.md R136, R138, R140, R142: the sub-word writes replace exactly their part and mark exactly the
slots it covers. The slots of the two largest parts are the spec's decision D10. The index order of half-words and
quarter-words is the spec's decision D34 (log 23). -/
def Obligations.PartRegisterWrites : Prop :=
  ∀ (s : State) (id : RegId) (t0 : Target) (x : Nat), Names id t0 → t0 ≠ .special .rnd →
    (∀ i < 8, x < 2 ^ 32 → ∃ t, exec (.rfSetLimb id i x) s = .next t ∧ Stored s t t0 (32 * i) 32 x (2 * i) 2) ∧
    (∀ (i : Nat) (u : Bool), i < 8 → x < 2 ^ 16 → ∃ t, exec (.rfSetHLimb id i u x) s = .next t ∧
      Stored s t t0 (32 * i + 16 * u.toNat) 16 x (2 * i + u.toNat) 1) ∧
    (∀ h < 2, x < 2 ^ 128 → ∃ t, exec (.rfSetHWord id h x) s = .next t ∧
      Stored s t t0 (128 * h) 128 x (8 * h) 8) ∧
    (∀ q < 4, x < 2 ^ 64 → ∃ t, exec (.rfSetQWord id q x) s = .next t ∧ Stored s t t0 (64 * q) 64 x (4 * q) 4)

/-- 41_register_file.md R132: no write path writes `rnd`; under fault each raises InvalidOperand(rnd) whatever the
value, under ignore each checks the value and completes. The two policies are the spec's open parameter D7. -/
def Obligations.RndNeverWritten : Prop :=
  ∀ (s : State) (i h q x : Nat) (u : Bool), s.config.wf = true → i < 8 → h < 2 → q < 4 →
    (s.config.rndWrite = .fault → ∀ op ∈ [Instr.rfSet (.special 4) x .full, .rfSet (.special 4) x (.limb i),
        .rfSet (.special 4) x (.halfLimb i u), .rfSetLimb (.special 4) i x,
        .rfSetHLimb (.special 4) i u x, .rfSetHWord (.special 4) h x, .rfSetQWord (.special 4) q x,
        .wsrSet s.config.wsrRnd x, .csrSet s.config.csrRnd x],
      exec op s = .next (s.setResponse (failed (.invalidOperand .rnd)))) ∧
    (s.config.rndWrite = .ignore → ∀ p ∈ [(Instr.rfSet (.special 4) x .full, 256),
        (.rfSet (.special 4) x (.limb i), 256), (.rfSet (.special 4) x (.halfLimb i u), 256),
        (.rfSetLimb (.special 4) i x, 32), (.rfSetHLimb (.special 4) i u x, 16),
        (.rfSetHWord (.special 4) h x, 128), (.rfSetQWord (.special 4) q x, 64),
        (.wsrSet s.config.wsrRnd x, 256), (.csrSet s.config.csrRnd x, 32)],
      exec p.1 s = .next (s.setResponse (if x < 2 ^ p.2 then said .none else failed (.rangeError x))))

/-- 41_register_file.md R130, R131, 60_exceptions.md R302, R305: the checks of the register file, the id first, then
the sub-word index or the granularity, then the value. The order is the spec's decision D12; the payload 3 is the
model's choice, log 22. -/
def Obligations.RegisterFileChecks : Prop :=
  ∀ (s : State) (n i x : Nat) (u : Bool) (g : Gran),
    (32 ≤ n → ∀ op ∈ [Instr.rfGet (.general n), .rfSet (.general n) x g, .rfGetLimb (.general n) i,
        .rfSetLimb (.general n) i x, .rfGetHLimb (.general n) i u, .rfSetHLimb (.general n) i u x,
        .rfGetHWord (.general n) i, .rfSetHWord (.general n) i x, .rfGetQWord (.general n) i,
        .rfSetQWord (.general n) i x],
      exec op s = .next (s.setResponse (failed (.indexError n)))) ∧
    (6 ≤ n → ∀ op ∈ [Instr.rfGet (.special n), .rfSet (.special n) x g, .rfGetLimb (.special n) i,
        .rfSetLimb (.special n) i x, .rfGetHLimb (.special n) i u, .rfSetHLimb (.special n) i u x,
        .rfGetHWord (.special n) i, .rfSetHWord (.special n) i x, .rfGetQWord (.special n) i,
        .rfSetQWord (.special n) i x],
      exec op s = .next (s.setResponse (failed (.invalidOperand (.number n))))) ∧
    (∀ id t0, Names id t0 →
      (8 ≤ i → ∀ op ∈ [Instr.rfSet id x (.limb i), .rfSet id x (.halfLimb i u), .rfGetLimb id i, .rfSetLimb id i x,
          .rfGetHLimb id i u, .rfSetHLimb id i u x],
        exec op s = .next (s.setResponse (failed (.indexError i)))) ∧
      (2 ≤ i → ∀ op ∈ [Instr.rfGetHWord id i, .rfSetHWord id i x],
        exec op s = .next (s.setResponse (failed (.indexError i)))) ∧
      (4 ≤ i → ∀ op ∈ [Instr.rfGetQWord id i, .rfSetQWord id i x],
        exec op s = .next (s.setResponse (failed (.indexError i)))) ∧
      exec (.rfSet id x .unassigned) s = .next (s.setResponse (failed (.invalidOperand (.number 3)))) ∧
      (t0 ≠ .special .rnd →
        (2 ^ 256 ≤ x → exec (.rfSet id x .full) s = .next (s.setResponse (failed (.rangeError x)))) ∧
        (i < 8 → 2 ^ 256 ≤ x → ∀ h ∈ [Gran.limb i, .halfLimb i u],
          exec (.rfSet id x h) s = .next (s.setResponse (failed (.rangeError x)))) ∧
        (i < 8 → 2 ^ 32 ≤ x → exec (.rfSetLimb id i x) s = .next (s.setResponse (failed (.rangeError x)))) ∧
        (i < 8 → 2 ^ 16 ≤ x → exec (.rfSetHLimb id i u x) s = .next (s.setResponse (failed (.rangeError x)))) ∧
        (i < 2 → 2 ^ 128 ≤ x → exec (.rfSetHWord id i x) s = .next (s.setResponse (failed (.rangeError x)))) ∧
        (i < 4 → 2 ^ 64 ≤ x → exec (.rfSetQWord id i x) s = .next (s.setResponse (failed (.rangeError x))))))

/-- 41_register_file.md R144, R145, 10_state.md R30, R31: what each CSR number reads, and that an unknown number is an
InvalidOperand for both operations. That the flags are read zero-extended is the spec's decision D9 (log 23). -/
def Obligations.CsrReadsTheViews : Prop :=
  ∀ s : State, s.config.wf = true →
    (∀ n, encode (.csrGet n) = ⟨0x1A, [n]⟩) ∧
    (∃ x : Limb, exec (.csrGet s.config.csrFlags) s = .next (s.setResponse (said (.limb x))) ∧
      x.toNat = s.flags.c.toNat + 2 * s.flags.l.toNat + 4 * s.flags.m.toNat + 8 * s.flags.z.toNat +
        16 * s.flags.xc.toNat + 32 * s.flags.xl.toNat + 64 * s.flags.xm.toNat + 128 * s.flags.xz.toNat) ∧
    (∀ k < 8, ∃ x : Limb, BitsFrom x s.sp.mod (32 * k) ∧
      exec (.csrGet (s.config.csrModBase + k)) s = .next (s.setResponse (said (.limb x)))) ∧
    (s.sp.rnd = rndSentinel →
      exec (.csrGet s.config.csrRnd) s = .next (s.setResponse (said (.limb 0x99999999#32)))) ∧
    (∀ n x, n ≠ s.config.csrFlags → n ≠ s.config.csrRnd → (∀ k < 8, n ≠ s.config.csrModBase + k) →
      exec (.csrGet n) s = .next (s.setResponse (failed (.invalidOperand (.number n)))) ∧
      exec (.csrSet n x) s = .next (s.setResponse (failed (.invalidOperand (.number n)))))

/-- 41_register_file.md R145: a write of the flags CSR sets all eight flags from bits 7 to 0, a write of a modulus
limb replaces that limb of `mod` alone, and too wide a value is a RangeError. The RangeError of a flags write is the
spec's decision D9. -/
def Obligations.CsrWritesTheViews : Prop :=
  ∀ (s : State) (x : Nat), s.config.wf = true →
    (x < 256 → exec (.csrSet s.config.csrFlags x) s =
      .next ((s.setFlags ⟨x.testBit 0, x.testBit 1, x.testBit 2, x.testBit 3, x.testBit 4, x.testBit 5, x.testBit 6,
        x.testBit 7⟩).setResponse (said .none))) ∧
    (256 ≤ x → exec (.csrSet s.config.csrFlags x) s = .next (s.setResponse (failed (.rangeError x)))) ∧
    (∀ k < 8, x < 2 ^ 32 → ∃ v : Wide, Replaced s.sp.mod v (32 * k) 32 x ∧
      exec (.csrSet (s.config.csrModBase + k) x) s =
        .next ((s.setSp { s.sp with mod := v }).setResponse (said .none))) ∧
    (∀ k < 8, 2 ^ 32 ≤ x →
      exec (.csrSet (s.config.csrModBase + k) x) s = .next (s.setResponse (failed (.rangeError x))))

/-- 41_register_file.md R146, R147, R143: the WSR view of `mod` and `rnd`; after a write of WSR_MOD the CSR limbs, the
WSR and RF.GET all show the one stored value. -/
def Obligations.WsrAndOneStorageOfMod : Prop :=
  ∀ (s : State) (v n : Nat), s.config.wf = true →
    exec (.wsrGet s.config.wsrMod) s = .next (s.setResponse (said (.wide s.sp.mod))) ∧
    exec (.wsrGet s.config.wsrRnd) s = .next (s.setResponse (said (.wide s.sp.rnd))) ∧
    (n ≠ s.config.wsrMod → n ≠ s.config.wsrRnd →
      exec (.wsrGet n) s = .next (s.setResponse (failed (.invalidOperand (.number n)))) ∧
      exec (.wsrSet n v) s = .next (s.setResponse (failed (.invalidOperand (.number n))))) ∧
    (2 ^ 256 ≤ v → exec (.wsrSet s.config.wsrMod v) s = .next (s.setResponse (failed (.rangeError v)))) ∧
    (v < 2 ^ 256 → ∃ t, exec (.wsrSet s.config.wsrMod v) s = .next t ∧
      t = (s.setSp { s.sp with mod := BitVec.ofNat 256 v }).setResponse (said .none) ∧
      exec (.wsrGet t.config.wsrMod) t = .next (t.setResponse (said (.wide (BitVec.ofNat 256 v)))) ∧
      exec (.rfGet (.special 0)) t = .next (t.setResponse (said (.wide (BitVec.ofNat 256 v)))) ∧
      ∀ k < 8, ∃ x : Limb, x.toNat = v / 2 ^ (32 * k) % 2 ^ 32 ∧
        exec (.csrGet (t.config.csrModBase + k)) t = .next (t.setResponse (said (.limb x))))

/-! ### Family 2 -/

/-- 42_gpr_file.md R161 to R164: x0 reads 0, and a write or an increment of it changes nothing. -/
def Obligations.GprZeroIsConstant : Prop :=
  ∀ (s : State) (x : Nat), x < 2 ^ 32 →
    exec (.gprGet 0) s = .next (s.setResponse (said (.limb 0))) ∧
    exec (.gprSet 0 x) s = .next (s.setResponse (said .none)) ∧
    exec (.gprInc 0) s = .next (s.setResponse (said .none)) ∧
    exec (.gprIncWb 0) s = .next (s.setResponse (said .none))

/-- 42_gpr_file.md R161 to R164: x2 to x7 are plain storage; a write changes that register alone and is read back;
the increments add 1 and 32 modulo 2^32. -/
def Obligations.GprPlainStorage : Prop :=
  ∀ (s : State) (k : Fin 6) (x : Nat), x < 2 ^ 32 →
    exec (.gprGet (k.val + 2)) s = .next (s.setResponse (said (.limb s.xs[k.val]))) ∧
    (∃ t, exec (.gprSet (k.val + 2) x) s = .next t ∧ (t.xs[k.val]).toNat = x ∧
      (∀ j : Fin 6, j ≠ k → t.xs[j.val] = s.xs[j.val]) ∧ t = (s.setXs t.xs).setResponse (said .none)) ∧
    (∃ t, exec (.gprInc (k.val + 2)) s = .next t ∧ (t.xs[k.val]).toNat = ((s.xs[k.val]).toNat + 1) % 2 ^ 32 ∧
      (∀ j : Fin 6, j ≠ k → t.xs[j.val] = s.xs[j.val]) ∧ t = (s.setXs t.xs).setResponse (said .none)) ∧
    (∃ t, exec (.gprIncWb (k.val + 2)) s = .next t ∧ (t.xs[k.val]).toNat = ((s.xs[k.val]).toNat + 32) % 2 ^ 32 ∧
      (∀ j : Fin 6, j ≠ k → t.xs[j.val] = s.xs[j.val]) ∧ t = (s.setXs t.xs).setResponse (said .none))

/-- 10_state.md R25, 42_gpr_file.md R161 to R163: x8 to x31 are the limbs of rfp, dmp and lc, one storage with two
paths; an increment adds to one limb modulo 2^32 and carries into no other. -/
def Obligations.GprAliasesOfSpecialLimbs : Prop :=
  ∀ (s : State) (c base k x : Nat), (c, base) ∈ [(2, 8), (1, 16), (3, 24)] → k < 8 →
    exec (.gprGet (base + k)) s = exec (.rfGetLimb (.special c) k) s ∧
    exec (.gprSet (base + k) x) s = exec (.rfSetLimb (.special c) k x) s ∧
    (∀ v : Limb, exec (.gprGet (base + k)) s = .next (s.setResponse (said (.limb v))) →
      exec (.gprInc (base + k)) s = exec (.rfSetLimb (.special c) k ((v.toNat + 1) % 2 ^ 32)) s ∧
      exec (.gprIncWb (base + k)) s = exec (.rfSetLimb (.special c) k ((v.toNat + 32) % 2 ^ 32)) s)

/-- 42_gpr_file.md R165 (derived), 10_state.md R26: x1 is the call stack: its read is CALL.POP and its write is
CALL.PUSH, and its increments add to the top entry with the depth unchanged, also on a full stack. -/
def Obligations.GprX1IsTheCallStack : Prop :=
  ∀ s : State,
    exec (.gprGet 1) s = exec .callPop s ∧
    (∀ x : Limb, exec (.gprSet 1 x.toNat) s = exec (.callPush x) s) ∧
    (∀ (below : List Limb) (top : Limb), s.cs = below ++ [top] → below.length < 16 →
      exec (.gprInc 1) s = .next ((s.setCs (below ++ [top + 1])).setResponse (said .none)) ∧
      exec (.gprIncWb 1) s = .next ((s.setCs (below ++ [top + 32])).setResponse (said .none))) ∧
    (s.cs = [] →
      exec (.gprInc 1) s = .next (s.setResponse (failed (.stackUnderrun .call))) ∧
      exec (.gprIncWb 1) s = .next (s.setResponse (failed (.stackUnderrun .call))))

/-- 42_gpr_file.md R161, R162: an index above 31 is an IndexError, then a value of 2^32 or more a RangeError, for x0
as for every other register. The order is the spec's decision D12. -/
def Obligations.GprChecks : Prop :=
  ∀ (s : State) (i x : Nat),
    (32 ≤ i → ∀ op ∈ [Instr.gprGet i, .gprSet i x, .gprInc i, .gprIncWb i],
      exec op s = .next (s.setResponse (failed (.indexError i)))) ∧
    (i < 32 → 2 ^ 32 ≤ x → exec (.gprSet i x) s = .next (s.setResponse (failed (.rangeError x))))

/-! ### Family 3 -/

/-- 43_flags.md R181 to R183: FLAG.GET gives the flag its id names; a flag set is got back, exactly that flag is
written; an unknown flag is an InvalidOperand; FLAG.GETP gives the weighted sum of the flags, which holds flag f at
bit f. -/
def Obligations.FlagSetThenGet : Prop :=
  ∀ (s : State) (f : Nat) (b : Bool),
    encode (.flagGet f) = ⟨0x30, [f]⟩ ∧ encode (.flagSet f b) = ⟨0x31, [f, bitValue b]⟩ ∧
    encode .flagGetP = ⟨0x32, []⟩ ∧
    (∃ p : Byte, exec .flagGetP s = .next (s.setResponse (said (.packed p))) ∧
      p.toNat = s.flags.c.toNat + 2 * s.flags.l.toNat + 4 * s.flags.m.toNat + 8 * s.flags.z.toNat +
        16 * s.flags.xc.toNat + 32 * s.flags.xl.toNat + 64 * s.flags.xm.toNat + 128 * s.flags.xz.toNat) ∧
    (f < 8 →
      (∃ c, (flagList s.flags)[f]? = some c ∧ exec (.flagGet f) s = .next (s.setResponse (said (.bit c)))) ∧
      ∃ t, exec (.flagSet f b) s = .next t ∧ t = (s.setFlags t.flags).setResponse (said .none) ∧
        flagList t.flags = (flagList s.flags).set f b ∧
        exec (.flagGet f) t = .next (t.setResponse (said (.bit b))) ∧
        ∃ p : Byte, exec .flagGetP t = .next (t.setResponse (said (.packed p))) ∧
          ∀ g < 8, (flagList t.flags)[g]? = some (p.getLsbD g)) ∧
    (8 ≤ f →
      exec (.flagGet f) s = .next (s.setResponse (failed (.invalidOperand (.number f)))) ∧
      exec (.flagSet f b) s = .next (s.setResponse (failed (.invalidOperand (.number f)))))

/-- 43_flags.md R183, R184: the packed byte holds flag g at bit g, in both directions, packing and setting are inverse
to each other, and a value that is no byte is a RangeError. The RangeError is the spec's decision D15. -/
def Obligations.FlagsPackedRoundTrip : Prop :=
  ∀ (s : State) (p : Nat),
    (p < 256 → ∃ t, exec (.flagSetP p) s = .next t ∧ t = (s.setFlags t.flags).setResponse (said .none) ∧
      (∀ g < 8, (flagList t.flags)[g]? = some (p.testBit g)) ∧
      exec .flagGetP t = .next (t.setResponse (said (.packed (BitVec.ofNat 8 p))))) ∧
    (∃ q : Byte, exec .flagGetP s = .next (s.setResponse (said (.packed q))) ∧
      (∀ g < 8, (flagList s.flags)[g]? = some (q.getLsbD g)) ∧
      exec (.flagSetP q.toNat) s = .next (s.setResponse (said .none))) ∧
    (256 ≤ p → exec (.flagSetP p) s = .next (s.setResponse (failed (.rangeError p))))

/-- 43_flags.md R185 to R187: the four signals of a 257-bit value go to the group the setter names, and the other
group keeps its values; 2^257 or more is a RangeError. The RangeError is the spec's decision D15. -/
def Obligations.FlagsFromWide : Prop :=
  ∀ (s : State) (v : Nat),
    (v < 2 ^ 257 →
      exec (.flagSetW v) s = .next ((s.setFlags { s.flags with
          c := decide (2 ^ 256 ≤ v), m := decide (2 ^ 255 ≤ v % 2 ^ 256), l := decide (v % 2 = 1),
          z := decide (v = 0 ∨ v = 2 ^ 256) }).setResponse (said .none)) ∧
      exec (.flagSetXW v) s = .next ((s.setFlags { s.flags with
          xc := decide (2 ^ 256 ≤ v), xm := decide (2 ^ 255 ≤ v % 2 ^ 256), xl := decide (v % 2 = 1),
          xz := decide (v = 0 ∨ v = 2 ^ 256) }).setResponse (said .none))) ∧
    (2 ^ 257 ≤ v → ∀ op ∈ [Instr.flagSetW v, .flagSetXW v],
      exec op s = .next (s.setResponse (failed (.rangeError v))))

/-- 43_flags.md R188 to R193: each narrow setter writes exactly the flags it lists. The X forms and the RangeError are
the spec's decision D15. -/
def Obligations.FlagsNarrowSetters : Prop :=
  ∀ (s : State) (v : Nat),
    (v < 2 ^ 257 →
      exec (.flagSetZml v) s = .next ((s.setFlags { s.flags with
          m := decide (2 ^ 255 ≤ v % 2 ^ 256), l := decide (v % 2 = 1),
          z := decide (v = 0 ∨ v = 2 ^ 256) }).setResponse (said .none)) ∧
      exec (.flagSetXZml v) s = .next ((s.setFlags { s.flags with
          xm := decide (2 ^ 255 ≤ v % 2 ^ 256), xl := decide (v % 2 = 1),
          xz := decide (v = 0 ∨ v = 2 ^ 256) }).setResponse (said .none)) ∧
      exec (.flagSetCm v) s = .next ((s.setFlags { s.flags with
          c := decide (2 ^ 256 ≤ v), m := decide (2 ^ 255 ≤ v % 2 ^ 256) }).setResponse (said .none)) ∧
      exec (.flagSetXCm v) s = .next ((s.setFlags { s.flags with
          xc := decide (2 ^ 256 ≤ v), xm := decide (2 ^ 255 ≤ v % 2 ^ 256) }).setResponse (said .none)) ∧
      exec (.flagSetL v) s =
        .next ((s.setFlags { s.flags with l := decide (v % 2 = 1) }).setResponse (said .none)) ∧
      exec (.flagSetXL v) s =
        .next ((s.setFlags { s.flags with xl := decide (v % 2 = 1) }).setResponse (said .none))) ∧
    (2 ^ 257 ≤ v → ∀ op ∈ [Instr.flagSetZml v, .flagSetXZml v, .flagSetCm v, .flagSetXCm v, .flagSetL v, .flagSetXL v],
      exec op s = .next (s.setResponse (failed (.rangeError v))))

/-- 40_wideword_alu.md R115 with 43_flags.md R186, R190: the flags derived from the 257-bit value of an addition and of
a subtraction: C is the carry or the borrow, so after a subtraction C says a < b + c. -/
def Obligations.FlagsOfSumAndDifference : Prop :=
  ∀ (s : State) (a b : Nat) (c : Bool), a < 2 ^ 256 → b < 2 ^ 256 →
    (∃ (r : Wide) (k : Bool) (t : State),
      exec (.wwAdd a b c) s = .next (s.setResponse (said (.wideCarry r k))) ∧
      exec (.flagSetW (r.toNat + 2 ^ 256 * k.toNat)) s = .next t ∧
      t.flags.c = decide (2 ^ 256 ≤ a + b + c.toNat) ∧ t.flags.z = decide ((a + b + c.toNat) % 2 ^ 256 = 0) ∧
      t.flags.l = decide ((a + b + c.toNat) % 2 = 1)) ∧
    (∃ (r : Wide) (k : Bool) (t : State),
      exec (.wwSub a b c) s = .next (s.setResponse (said (.wideCarry r k))) ∧
      exec (.flagSetCm (r.toNat + 2 ^ 256 * k.toNat)) s = .next t ∧
      t.flags.c = decide (a < b + c.toNat) ∧ t.flags.m = r.msb ∧ t.flags.z = s.flags.z)

/-! ### Family 4 -/

/-- 44_memory_ops.md R201, 20_memory.md R53: a cell store writes its 32 bytes little-endian, marks the cell
initialised, and leaves every other byte of memory and every other field as it was; the cell is read back without a
diagnostic. The unlisted bytes read 0 by log 16. -/
def Obligations.DmemCellStore : Prop :=
  ∀ (s : State) (a v : Nat), s.dmem.wf → a < 128 → v < 2 ^ 256 →
    ∃ t, exec (.dmemSet a v) s = .next t ∧
      (∀ k < 32, t.dmem.read (32 * a + k) = BitVec.ofNat 8 (v / 256 ^ k)) ∧
      (∀ b, b < 32 * a ∨ 32 * a + 32 ≤ b → t.dmem.read b = s.dmem.read b) ∧
      (∀ b, t.dinit.getLsbD b = (s.dinit.getLsbD b || decide (b = a))) ∧
      t = ((s.setDmem t.dmem).setDinit t.dinit).setResponse (said .none) ∧
      exec (.dmemGet a) t = .next (t.setResponse (said (.wide (BitVec.ofNat 256 v))))

/-- 44_memory_ops.md R203, 20_memory.md R52 to R54: a limb store writes the four bytes of the limb that contains byte
b, marks its cell initialised, and leaves every other byte of memory and every other field as it was; the cell then
reads as before with that limb replaced. That the low two address bits are ignored is the spec's decision D16. -/
def Obligations.DmemLimbStore : Prop :=
  ∀ (s : State) (b x : Nat), s.dmem.wf → b < 4096 → x < 2 ^ 32 →
    limbBase b = b - b % 4 ∧
    ∃ t, exec (.dmemSetLimb b x) s = .next t ∧
      (∀ k < 4, t.dmem.read (limbBase b + k) = BitVec.ofNat 8 (x / 256 ^ k)) ∧
      (∀ c, c < limbBase b ∨ limbBase b + 4 ≤ c → t.dmem.read c = s.dmem.read c) ∧
      (∀ c, t.dinit.getLsbD c = (s.dinit.getLsbD c || decide (c = b / 32))) ∧
      t = ((s.setDmem t.dmem).setDinit t.dinit).setResponse (said .none) ∧
      exec (.dmemGetLimb b) t = .next (t.setResponse (said (.limb (BitVec.ofNat 32 x)))) ∧
      ∃ v : Wide, exec (.dmemGet (b / 32)) t = .next (t.setResponse (said (.wide v))) ∧
        Replaced (s.readCell (b / 32)) v (32 * (b % 32 / 4)) 32 x

/-- 44_memory_ops.md R200, R202, 60_exceptions.md R309: a load of a cell gives its 32 bytes and a load of a limb the
limb of that cell, with the diagnostic of a cell never written, or UninitRead under strict. That a limb load at an
address that is no multiple of 4 gives the limb that contains it is the spec's decision D16 (R54, log 23). -/
def Obligations.DmemLoads : Prop :=
  ∀ s : State,
    (∀ a < 128, ∃ v : Wide, (∀ k < 32, v.toNat / 256 ^ k % 256 = (s.dmem.read (32 * a + k)).toNat) ∧
      exec (.dmemGet a) s = .next (s.setResponse (cellResponse s a (.wide v)))) ∧
    (∀ b < 4096, ∃ x : Limb, BitsFrom x (s.readCell (b / 32)) (32 * (b % 32 / 4)) ∧
      exec (.dmemGetLimb b) s = .next (s.setResponse (cellResponse s (b / 32) (.limb x))))

/-- 44_memory_ops.md R200 to R204: the address is checked first, then the value; IMEM.FETCH gives the object at an
index below the actual length and is an IndexError at any other. -/
def Obligations.MemoryChecksAndFetch : Prop :=
  ∀ (s : State) (a x : Nat),
    (128 ≤ a → ∀ op ∈ [Instr.dmemGet a, .dmemSet a x], exec op s = .next (s.setResponse (failed (.indexError a)))) ∧
    (4096 ≤ a → ∀ op ∈ [Instr.dmemGetLimb a, .dmemSetLimb a x],
      exec op s = .next (s.setResponse (failed (.indexError a)))) ∧
    (a < 128 → 2 ^ 256 ≤ x → exec (.dmemSet a x) s = .next (s.setResponse (failed (.rangeError x)))) ∧
    (a < 4096 → 2 ^ 32 ≤ x → exec (.dmemSetLimb a x) s = .next (s.setResponse (failed (.rangeError x)))) ∧
    (∀ h : a < s.params.imem.length,
      exec (.imemFetch a) s = .next (s.setResponse (said (.obj (s.params.imem[a]'h))))) ∧
    (s.params.imem.length ≤ a → exec (.imemFetch a) s = .next (s.setResponse (failed (.indexError a))))

/-! ### Family 5 -/

/-- 45_stacks.md R220 to R225: the loop stack's operations on an empty, a non-empty and a full stack. The underrun of
LOOP.DEC is the spec's decision D18. -/
def Obligations.LoopStackOperations : Prop :=
  ∀ (s : State) (c e b : Limb),
    (s.ls.length < 16 →
      exec (.loopPush c e b) s = .next ((s.setLs (s.ls ++ [⟨c, e, b⟩])).setResponse (said .none))) ∧
    (16 ≤ s.ls.length →
      exec (.loopPush c e b) s = .next (s.setResponse (failed (.stackOverflow .loop)))) ∧
    (s.ls = [] → ∀ op ∈ [Instr.loopDec, .loopPop, .loopTopEnd, .loopTopStart],
      exec op s = .next (s.setResponse (failed (.stackUnderrun .loop)))) ∧
    (∀ below : List LoopEntry, s.ls = below ++ [⟨c, e, b⟩] →
      exec .loopTopEnd s = .next (s.setResponse (said (.limb e))) ∧
      exec .loopTopStart s = .next (s.setResponse (said (.limb b))) ∧
      exec .loopPop s = .next ((s.setLs below).setResponse (said (.limb b))) ∧
      (0 < c.toNat → ∃ d : Limb, d.toNat + 1 = c.toNat ∧
        exec .loopDec s = .next ((s.setLs (below ++ [⟨d, e, b⟩])).setResponse (said (.bit true)))) ∧
      (c = 0 → exec .loopDec s = .next (s.setResponse (said (.bit false)))))

/-- 45_stacks.md R226, R227: the call stack's operations on an empty, a non-empty and a full stack, the same as GPR.SET
and GPR.GET of x1. -/
def Obligations.CallStackOperations : Prop :=
  ∀ (s : State) (x : Limb),
    encode (.callPush x) = ⟨0x55, [x.toNat]⟩ ∧ encode .callPop = ⟨0x56, []⟩ ∧
    exec (.callPush x) s = exec (.gprSet 1 x.toNat) s ∧ exec .callPop s = exec (.gprGet 1) s ∧
    (s.cs.length < 16 → exec (.callPush x) s = .next ((s.setCs (s.cs ++ [x])).setResponse (said .none))) ∧
    (16 ≤ s.cs.length → exec (.callPush x) s = .next (s.setResponse (failed (.stackOverflow .call)))) ∧
    (∀ below : List Limb, s.cs = below ++ [x] →
      exec .callPop s = .next ((s.setCs below).setResponse (said (.limb x)))) ∧
    (s.cs = [] → exec .callPop s = .next (s.setResponse (failed (.stackUnderrun .call))))

/-! ### Family 6 -/

/-- 46_debug_triggers.md R240: toggling inserts (passes, 1) at an absent address and removes a present one, leaving
every other address alone; a second toggle of an address that was absent gives the table back, and one of an address
that was present inserts (again, 1), the counter at 1; 0 passes on insertion is a RangeError, the spec's decision
D29. -/
def Obligations.BreakpointToggle : Prop :=
  ∀ (s : State) (addr passes again : Nat), MapSorted s.bp →
    (mapGet addr s.bp = none → 0 < passes → ∃ t, exec (.bpToggle addr passes) s = .next t ∧
      t = (s.setBp t.bp).setResponse (said .none) ∧
      (∀ a, mapGet a t.bp = if a = addr then some ⟨passes, 1⟩ else mapGet a s.bp) ∧
      exec (.bpToggle addr again) t = .next ((t.setBp s.bp).setResponse (said .none))) ∧
    (mapGet addr s.bp = none → exec (.bpToggle addr 0) s = .next (s.setResponse (failed (.rangeError 0)))) ∧
    (mapGet addr s.bp ≠ none → ∃ t, exec (.bpToggle addr passes) s = .next t ∧
      t = (s.setBp t.bp).setResponse (said .none) ∧
      (∀ a, mapGet a t.bp = if a = addr then none else mapGet a s.bp) ∧
      (0 < again → ∃ u, exec (.bpToggle addr again) t = .next u ∧ u = (t.setBp u.bp).setResponse (said .none) ∧
        ∀ a, mapGet a u.bp = if a = addr then some ⟨again, 1⟩ else mapGet a s.bp))

/-- 46_debug_triggers.md R241: an evaluation fires exactly when the counter equals the required count, then resets it
to 1, else counts; the counter stays between 1 and the required count; an address without an entry answers 0 and changes
nothing. -/
def Obligations.BreakpointEvaluation : Prop :=
  ∀ (s : State) (addr : Nat), encode (.bpEval addr) = ⟨0x61, [addr]⟩ ∧
    (mapGet addr s.bp = none → exec (.bpEval addr) s = .next (s.setResponse (said (.bit false)))) ∧
    (∀ req cnt, mapGet addr s.bp = some ⟨req, cnt⟩ → ∃ t, exec (.bpEval addr) s = .next t ∧
      t = (s.setBp t.bp).setResponse (said (.bit (decide (cnt = req)))) ∧
      (∀ a, mapGet a t.bp =
        if a = addr then some ⟨req, if cnt = req then 1 else cnt + 1⟩ else mapGet a s.bp) ∧
      (1 ≤ cnt → cnt ≤ req → ∃ next, mapGet addr t.bp = some ⟨req, next⟩ ∧ 1 ≤ next ∧ next ≤ req))

/-- 46_debug_triggers.md R240, R241: an entry just toggled on fires on the Nth time its address is evaluated and on
no time before, for every N. -/
def Obligations.BreakpointFiresOnTheNthVisit : Prop :=
  ∀ (s : State) (addr passes : Nat), mapGet addr s.bp = none → 0 < passes →
    ∃ t, exec (.bpToggle addr passes) s = .next t ∧
      hits addr passes t = List.replicate (passes - 1) false ++ [true]

/-- 46_debug_triggers.md R242, R244: what FB.ARM writes, and that FB.EVAL fires and disarms exactly when armed and its
condition, if any, holds. The unused target's 0 is the spec's decision D30; the payload 3 is the model's choice, log
22. -/
def Obligations.ForceBreakArmAndEvaluate : Prop :=
  ∀ (s : State) (d : Nat),
    exec (.fbArm .none) s = .next ((s.setFb ⟨true, false, 0, false, 0⟩).setResponse (said .none)) ∧
    exec (.fbArm (.callDepth d)) s = .next ((s.setFb ⟨true, true, d, false, 0⟩).setResponse (said .none)) ∧
    exec (.fbArm (.loopDepth d)) s = .next ((s.setFb ⟨true, false, 0, true, d⟩).setResponse (said .none)) ∧
    exec (.fbArm .unassigned) s = .next (s.setResponse (failed (.invalidOperand (.number 3)))) ∧
    (s.fb.armed = true → ((s.fb.useCall = false ∧ s.fb.useLoop = false) ∨
        (s.fb.useCall = true ∧ s.cs.length = s.fb.callTarget) ∨
        (s.fb.useLoop = true ∧ s.ls.length = s.fb.loopTarget)) →
      exec .fbEval s = .next ((s.setFb { s.fb with armed := false }).setResponse (said (.bit true)))) ∧
    ((s.fb.armed = false ∨ ((s.fb.useCall = true ∨ s.fb.useLoop = true) ∧
        ¬(s.fb.useCall = true ∧ s.cs.length = s.fb.callTarget) ∧
        ¬(s.fb.useLoop = true ∧ s.ls.length = s.fb.loopTarget))) →
      exec .fbEval s = .next (s.setResponse (said (.bit false))))

/-- 46_debug_triggers.md R243: a breakpoint target given as a label goes to BP.TOGGLE at the label's address, and
without a context or such a name is an InvalidOperand with no BP.TOGGLE issued (the driver's call is the model's, log
1, log 19; that the error carries the label is log 22). -/
def Obligations.LabelBreakpointTargets : Prop :=
  ∀ (s : State) (label : String) (passes : Nat) (rest : List DriverCall),
    s.driver = .toggleLabel label passes :: rest →
    (s.params.asmCtx = none →
      step s = .next ((s.setDriver rest).setResponse (failed (.invalidOperand (.label label))))) ∧
    (∀ names, s.params.asmCtx = some names →
      (mapGet label names = none →
        step s = .next ((s.setDriver rest).setResponse (failed (.invalidOperand (.label label))))) ∧
      (∀ a, mapGet label names = some a → step s = exec (.bpToggle a passes) (s.setDriver rest)))

/-! ### Family 7 -/

/-- 47_step_engine.md R261 (steps 2 to 4), R263, R264: STEP enters the instruction after FB.EVAL, then BP.EVAL at the
pc, both always, whose disjunction is the report, and one count for the mnemonic; nothing else has changed. The place
of the fetch is the spec's decision D32. -/
def Obligations.StepEntersWithTriggersAndCount : Prop :=
  ∀ (s u : State) (ins : InstrObj) (hit : Bool), Entered s u ins hit →
    ∃ (f b : Bool) (v : State), exec .fbEval s = .next (v.setResponse (said (.bit f))) ∧
      exec (.bpEval s.pc) v = .next ((v.setBp u.bp).setResponse (said (.bit b))) ∧ u.fb = v.fb ∧ hit = (f || b) ∧
      (∀ name, mapGet name u.hist =
        if name = ins.mnemonic then some ((mapGet name s.hist).getD 0 + 1) else mapGet name s.hist) ∧
      u = ((s.setFb u.fb).setBp u.bp).setHist u.hist

/-- 47_step_engine.md R265, 00_scope.md R12, 60_exceptions.md R311, R320, R321: an instruction object's operations take
effect one after another through exec, each result bound for those after it and each diagnostic kept; an error ends the
run at once with nothing undone; an operation an instruction must not issue is refused. The results that are numbers
are bound as numbers, and a fetched object as the object, of which a text shows the mnemonic and the assembler string
(`BindsResults`, `Computes`). A branch goes on by its condition, and a leaf returns its trace and target (`Returns`). A
fetched object's program runs in the place of `run`, in the same state, and binds its trace string and its target,
within the depth that the object of the STEP gives; a run that stops stops the outer one. The cycle count of a fetched
object has no effect on a run (R321), and the trace string of a nested run none but on the trace string returned
(60_exceptions.md R324). The object's form, the binding of results, the refusal and the nested run are log 7, log 8,
log 9 and log 25; that the diagnostics so far are kept when an operation raises is log 21. -/
def Obligations.OperationsRunInOrder : Prop :=
  ∀ (depth : Nat) (rest : Prog) (env : List Value) (ds : List Diag) (s : State),
    (∀ (op : BitVec 8) (args : List Expr) (vals : List Nat) (i : Instr),
      evalArgs env args = some vals → decode ⟨op, vals⟩ = .ok i →
      (∀ t, i.issuable = true → exec i s = .next t →
        (t.response.err = none → runProg depth (.call op args rest) env ds s =
          runProg depth rest (env ++ resultValues t.response.result) (ds ++ t.response.diags) t) ∧
        (∀ e, t.response.err = some e →
          runProg depth (.call op args rest) env ds s = .raised e (ds ++ t.response.diags) t)) ∧
      (i.issuable = false →
        runProg depth (.call op args rest) env ds s = .stopped (.refused (.notIssuable op.toNat)))) ∧
    (∀ (c : Expr) (els : Prog) (n : Nat), evalExpr env c = some n →
      runProg depth (.branch c rest els) env ds s = runProg depth (if n = 0 then els else rest) env ds s) ∧
    (∀ (trace : Trace) (next : NextPc) (str : String) (req : Option Int), evalTrace env trace = some str →
      evalNext env next = some req → runProg depth (.done trace next) env ds s = .returned str req ds s) ∧
    (∀ (k : Nat) (o : InstrObj), env[k]? = some (.obj o) →
      (∀ trace req es t, runProg depth o.exec [] ds s = .returned trace req es t →
        runProg (depth + 1) (.run k rest) env ds s =
          runProg (depth + 1) rest (env ++ runValues trace req) es t) ∧
      (∀ e es t, runProg depth o.exec [] ds s = .raised e es t →
        runProg (depth + 1) (.run k rest) env ds s = .raised e es t) ∧
      (∀ a, runProg depth o.exec [] ds s = .stopped a → runProg (depth + 1) (.run k rest) env ds s = .stopped a) ∧
      runProg 0 (.run k rest) env ds s = .stopped (.refused .notFinite)) ∧
    (∀ env' : List Value, env.map hideCycles = env'.map hideCycles →
      runProg depth rest env ds s = runProg depth rest env' ds s) ∧
    (∀ env' : List Value, env.map hideTrace = env'.map hideTrace →
      endWithoutTrace (runProg depth rest env ds s) = endWithoutTrace (runProg depth rest env' ds s)) ∧
    BindsResults ∧ BindsNestedRun ∧ Computes env ∧ Returns env ∧
    (∀ (ins : InstrObj) (u : State), runIns ins u = runProg ins.nesting ins.exec [] [] u)

/-- 47_step_engine.md R261, R262, R266, R268: STEP on any instruction object that returns, away from a loop's end: the
effects of its operations, then pc from the target, or pc + 1, or the end of IMEM. When `finish` halts is the spec's
decision D20, the report the spec's D35. A trace string is what the object's leaf gives, log 7. -/
def Obligations.StepOfReturningInstruction : Prop :=
  ∀ (s u v : State) (ins : InstrObj) (hit : Bool) (trace : String) (req : Option Int) (ds : List Diag),
    Entered s u ins hit → runIns ins u = .returned trace req ds v → NotLoopTail v →
    (∀ target : Int, req = some target → 0 ≤ target ∧ target < s.params.imem.length) →
    ∃ (t : State) (cont : Bool), exec .step s = .next t ∧
      t = (v.setPc t.pc).setResponse ⟨.stepDone cont trace ins.cycles hit, none, ds⟩ ∧
      (∀ target : Int, req = some target → (t.pc : Int) = target ∧ (cont = true ↔ ¬Halting s)) ∧
      (req = none → s.pc + 1 < s.params.imem.length → t.pc = s.pc + 1 ∧ (cont = true ↔ ¬Halting s)) ∧
      (req = none → s.params.imem.length ≤ s.pc + 1 → t.pc = s.pc ∧ cont = false)

/-- 47_step_engine.md R267: at the end address of the loop on top after the instruction, its target is overridden:
decrement and jump to the start while the count is above 0, else pop and fall through. The end of IMEM is the spec's
decision D19, and that `finish` counts only when set before this STEP is its D20 (R262, log 23). -/
def Obligations.StepAtLoopTail : Prop :=
  ∀ (s u v : State) (ins : InstrObj) (hit : Bool) (trace : String) (req : Option Int) (ds : List Diag)
    (below : List LoopEntry) (e : LoopEntry),
    Entered s u ins hit → runIns ins u = .returned trace req ds v →
    v.ls = below ++ [e] → s.pc = e.endAddr.toNat →
    (0 < e.count.toNat → e.start.toNat < s.params.imem.length →
      ∃ (t : State) (cont : Bool) (d : Limb), exec .step s = .next t ∧ d.toNat + 1 = e.count.toNat ∧
        (cont = true ↔ ¬Halting s) ∧
        t = ((v.setLs (below ++ [{ e with count := d }])).setPc e.start.toNat).setResponse
          ⟨.stepDone cont trace ins.cycles hit, none, ds⟩) ∧
    (e.count = 0 →
      ∃ (t : State) (cont : Bool), exec .step s = .next t ∧
        (s.pc + 1 < s.params.imem.length → t.pc = s.pc + 1 ∧ (cont = true ↔ ¬Halting s)) ∧
        (s.params.imem.length ≤ s.pc + 1 → t.pc = s.pc ∧ cont = false) ∧
        t = ((v.setLs below).setPc t.pc).setResponse ⟨.stepDone cont trace ins.cycles hit, none, ds⟩)

/-- 47_step_engine.md R266, 60_exceptions.md R306, R310: a target outside IMEM, from the instruction or from the loop
stack, is an InvalidJump: pc keeps its value, and what step 6 did to the loop stack stays done. That the response
keeps the diagnostics so far is log 21. -/
def Obligations.StepInvalidJump : Prop :=
  ∀ (s u v : State) (ins : InstrObj) (hit : Bool) (trace : String) (req : Option Int) (ds : List Diag),
    Entered s u ins hit → runIns ins u = .returned trace req ds v →
    (∀ target : Int, req = some target → (target < 0 ∨ (s.params.imem.length : Int) ≤ target) → NotLoopTail v →
      v.pc = s.pc ∧ exec .step s = .next (v.setResponse ⟨.none, some (.invalidJump target), ds⟩)) ∧
    (∀ (below : List LoopEntry) (e : LoopEntry), v.ls = below ++ [e] → s.pc = e.endAddr.toNat → 0 < e.count.toNat →
      s.params.imem.length ≤ e.start.toNat →
      ∃ d : Limb, d.toNat + 1 = e.count.toNat ∧ v.pc = s.pc ∧
        exec .step s = .next ((v.setLs (below ++ [{ e with count := d }])).setResponse
          ⟨.none, some (.invalidJump (e.start.toNat : Int)), ds⟩))

/-- 60_exceptions.md R310, 47_step_engine.md R261: an error of the instruction ends STEP with the same error, after what
its earlier operations did: steps 6 to 8 have not run, pc still points at the instruction, and the histogram has counted
it; the diagnostics so far stay in the response (log 21). With no object at the pc the fetch, after FB.EVAL and BP.EVAL
at the pc, is an IndexError (R204; the model's choice where no program is loaded, log 5). -/
def Obligations.StepErrors : Prop :=
  (∀ (s u v : State) (ins : InstrObj) (hit : Bool) (e : Err) (ds : List Diag),
    Entered s u ins hit → runIns ins u = .raised e ds v →
    exec .step s = .next (v.setResponse ⟨.none, some e, ds⟩) ∧
      v.pc = s.pc ∧ v.fb = u.fb ∧ v.bp = u.bp ∧ v.hist = u.hist) ∧
  (∀ s : State, s.params.imem.length ≤ s.pc →
    ∃ (f b : Bool) (v u : State), exec .fbEval s = .next (v.setResponse (said (.bit f))) ∧
      exec (.bpEval s.pc) v = .next (u.setResponse (said (.bit b))) ∧
      exec .step s = .next (u.setResponse (failed (.indexError s.pc))))

/-- 47_step_engine.md R262, R266, R268, R269: FINISH sets the finish flag and changes nothing else; for every
instruction object, a STEP that returns cont = 0 does so at the stop address, with `finish` set before it, or with no
pc + 1 to fall through to; and at the stop address, or with `finish` set before it, a STEP never returns cont = 1.
When `finish` halts is the spec's decision D20. -/
def Obligations.FinishAndTheEndsOfARun : Prop :=
  (∀ s : State, exec .finish s = .next ((s.setFinish true).setResponse (said .none))) ∧
  ∀ (s t : State) (cont hit : Bool) (trace : String) (cycles : Nat), exec .step s = .next t →
    t.response.result = .stepDone cont trace cycles hit →
    (Halting s → cont = false) ∧
    (cont = false → Halting s ∨ (s.params.imem.length ≤ s.pc + 1 ∧ t.pc = s.pc))

/-- 70_reset_and_hazards.md R343 (the spec's decision D23): RESET makes the machine that construction makes from the
same inputs, but for the breakpoint table and the histogram, which are kept. That the driver's queue stays is log 20.
-/
def Obligations.ResetReconstructs : Prop :=
  ∀ s m : State, construct s.config s.params = some m →
    ∃ t, exec .reset s = .next t ∧ t.bp = s.bp ∧ t.hist = s.hist ∧
      t = (((m.setBp s.bp).setHist s.hist).setDriver s.driver).setResponse (said .none)

/-- 70_reset_and_hazards.md R344 (the spec's decision D23): CLEARREGS clears the wide registers, the validity bits, the
special registers but `rnd`, and x2 to x7, and nothing else. -/
def Obligations.ClearRegsClears : Prop :=
  ∀ s : State, ∃ t, exec .clearRegs s = .next t ∧
    (∀ n : Fin 32, t.w[n.val] = 0 ∧ t.valid[n.val] = 0) ∧ (∀ k : Fin 6, t.xs[k.val] = 0) ∧
    t.sp = ⟨0, 0, 0, 0, s.sp.rnd, 0⟩ ∧
    t = ((((s.setW t.w).setValid t.valid).setSp t.sp).setXs t.xs).setResponse (said .none)

/-! ### The whole machine -/

/-- 10_state.md R41, R42, 70_reset_and_hazards.md R341: the machine that construction makes, which meets the
invariants. The zeros of the registers, the flags and the stacks are the spec's decisions D3 to D5 (log 15). The
conjunct on `s.run` is the model's own: a run not begun in the driver's record, log 2 (47_step_engine.md R260 says the
block stores no such thing). -/
def Obligations.ConstructionGivesTheResetTable : Prop :=
  ∀ (c : Config) (p : Params) (s : State), construct c p = some s →
    s.config = c ∧ s.params = p ∧ s.pc = p.startPc ∧
    (∀ stop, p.stopAddr = some stop → s.stopAddr = stop) ∧
    (p.stopAddr = none → s.stopAddr = (p.imem.length : Int) - 1) ∧
    (∀ a < 128, s.readCell a = BitVec.ofNat 256 (p.dmemInit.getD a 0) ∧
      s.dinit.getLsbD a = decide (a < p.dmemInit.length)) ∧
    (∀ a, mapGet a s.bp = if a ∈ p.bpInit then some ⟨1, 1⟩ else none) ∧
    (∀ n : Fin 32, s.w[n.val] = 0 ∧ s.valid[n.val] = 0) ∧ (∀ k : Fin 6, s.xs[k.val] = 0) ∧
    s.sp = ⟨0, 0, 0, 0, rndSentinel, 0⟩ ∧ s.flags = ⟨false, false, false, false, false, false, false, false⟩ ∧
    s.ls = [] ∧ s.cs = [] ∧ s.finish = false ∧ s.fb = ⟨false, false, 0, false, 0⟩ ∧ s.hist = [] ∧
    s.run = ⟨false, none⟩ ∧ s.Inv

/-- 10_state.md R42: the invariants hold of the reset state. The state is the one with no program, log 5. -/
def Obligations.ResetMeetsInvariants : Prop := State.reset.Inv

/-- 10_state.md R42: every step of the machine keeps the invariants, whatever the driver calls and whatever the
instruction objects issue, error or not. -/
def Obligations.EveryStepKeepsInvariants : Prop :=
  ∀ s t : State, s.Inv → step s = .next t → t.Inv

/-- 00_scope.md R14: an operation ends in a result or an error, and the error is a next state whose response holds it
(log 3): each of the 62 operations but STEP answers in every state. STEP answers, or is refused exactly as the run of
its instruction object is, which stops only by a refusal: an operand, condition, trace or target that names a result not
bound (log 10), a request that no record can carry (log 10), an operation not issuable (log 9), a nested run too deep
(log 25). A request of the driver that no record can carry is refused too. -/
def Obligations.EveryOperationAnswers : Prop :=
  (∀ (i : Instr) (s : State), i ≠ .step → ∃ t, exec i s = .next t) ∧
  (∀ s : State, (∃ t, exec .step s = .next t) ∨ ∃ (u : State) (ins : InstrObj) (hit : Bool) (r : Refusal),
    Entered s u ins hit ∧ runIns ins u = .stopped (.refused r) ∧ exec .step s = .refused r) ∧
  (∀ (s u : State) (ins : InstrObj) (hit : Bool) (r : Refusal),
    Entered s u ins hit → runIns ins u = .stopped (.refused r) → exec .step s = .refused r) ∧
  (∀ (depth : Nat) (rest els : Prog) (env : List Value) (ds : List Diag) (s : State),
    (∀ (op : BitVec 8) (args : List Expr), evalArgs env args = none →
      runProg depth (.call op args rest) env ds s = .stopped (.refused .unboundResult)) ∧
    (∀ c : Expr, evalExpr env c = none →
      runProg depth (.branch c rest els) env ds s = .stopped (.refused .unboundResult)) ∧
    (∀ (trace : Trace) (next : NextPc), (evalTrace env trace = none ∨ evalNext env next = none) →
      runProg depth (.done trace next) env ds s = .stopped (.refused .unboundResult)) ∧
    (∀ k : Nat, (∀ o, env[k]? ≠ some (.obj o)) →
      runProg depth (.run k rest) env ds s = .stopped (.refused .unboundResult)) ∧
    (∀ (op : BitVec 8) (args : List Expr) (vals : List Nat) (e : DecodeError), evalArgs env args = some vals →
      decode ⟨op, vals⟩ = .error e → (∀ n, e ≠ .unassignedSelector n) →
      runProg depth (.call op args rest) env ds s = .stopped (.refused (.malformedRequest e)))) ∧
  (∀ (s : State) (r : Request) (rest : List DriverCall) (e : DecodeError), s.driver = .request r :: rest →
    decode r = .error e → (∀ n, e ≠ .unassignedSelector n) → step s = .refused (.malformedRequest e))

/-- 60_exceptions.md R310: an operation that raised has written nothing but its response; the call stack's bound is
the invariant of 10_state.md R42 that GPR.INC of x1 needs. -/
def Obligations.ErrorsWriteNothing : Prop :=
  ∀ (i : Instr) (s t : State), i ≠ .step → s.cs.length ≤ 16 → exec i s = .next t → t.response.err ≠ none →
    t = s.setResponse t.response

/-- 10_state.md R27, R28, R34: only STEP and RESET move the pc, no operation writes the stop address but RESET, and
none writes the instruction memory, the construction inputs or the configuration. That the driver's queue stays is log
20. -/
def Obligations.OnlyStepAndResetMoveThePc : Prop :=
  ∀ (i : Instr) (s t : State), exec i s = .next t →
    t.params = s.params ∧ t.config = s.config ∧ t.driver = s.driver ∧
    (i ≠ .reset → t.stopAddr = s.stopAddr ∧ t.run = s.run) ∧ (i ≠ .reset → i ≠ .step → t.pc = s.pc)

/-- 43_flags.md R180: no operation but the flag setters, CSR.SET, STEP (through its instruction) and RESET writes a
flag. -/
def Obligations.FlagsHaveNoOtherWriter : Prop :=
  ∀ (i : Instr) (s t : State), mayWriteFlags i = false → exec i s = .next t → t.flags = s.flags

/-! ### Decoding and the driver -/

/-- 30_encoding.md R71 to R75: decoding the record of a well-formed operation gives it back, with every operand at
every value its field admits. The numbers are the spec's decision D1, the list of fields is log 11. -/
def Obligations.DecodeOfEncode : Prop :=
  ∀ i : Instr, i.wf = true → decode (encode i) = .ok i

/-- 30_encoding.md R73, R75 (the spec's numbers, D1): records written out from the selector map and the operand codes
decode to the operations they spell. -/
def Obligations.RecordsOfTheMapDecode : Prop :=
  decode ⟨0x00, [7, 9, 1]⟩ = .ok (.wwAdd 7 9 true) ∧
  decode ⟨0x0B, [5, 3, 1, 0xBEEF]⟩ = .ok (.wwSetHLimb 5 3 true 0xBEEF) ∧
  decode ⟨0x11, [0, 5, 77, 2, 3, 1]⟩ = .ok (.rfSet (.general 5) 77 (.halfLimb 3 true)) ∧
  decode ⟨0x11, [1, 0, 77]⟩ = .ok (.rfSet (.special 0) 77 .full) ∧
  decode ⟨0x23, [3]⟩ = .ok (.gprIncWb 3) ∧
  decode ⟨0x31, [6, 1]⟩ = .ok (.flagSet 6 true) ∧
  decode ⟨0x43, [36, 0xAABBCCDD]⟩ = .ok (.dmemSetLimb 36 0xAABBCCDD) ∧
  decode ⟨0x50, [3, 3, 2]⟩ = .ok (.loopPush 3 3 2) ∧
  decode ⟨0x62, [2, 17]⟩ = .ok (.fbArm (.loopDepth 17)) ∧
  decode ⟨0x71, []⟩ = .ok .finish

/-- 30_encoding.md R76 (D1): a request with any unassigned selector raises InvalidOperand and changes no state. The
error rather than a refusal is log 12. -/
def Obligations.UnassignedSelectorsRaise : Prop :=
  ∀ (s : State) (r : Request) (rest : List DriverCall), Unassigned r.opSel.toNat → s.driver = .request r :: rest →
    step s = .next ((s.setDriver rest).setResponse (failed (.invalidOperand (.number r.opSel.toNat))))

/-- 30_encoding.md R71, 60_exceptions.md R320, R312, 70_reset_and_hazards.md R349, R352, 47_step_engine.md R260: a step
takes the driver's next request and is exec of the operation it decodes to; where that is STEP, the step also writes
the driver's record, halted exactly when this STEP returned cont = 0 and faulted from the first error of a STEP on.
With nothing queued the driver aborts a faulted run, leaves an ended run as it is, whatever it has called since, and
otherwise calls STEP (the queue, the record and the idle driver are the model's, log 1, log 2). -/
def Obligations.StepRunsTheDecodedRequest : Prop :=
  ∀ s : State,
    (∀ (r : Request) (rest : List DriverCall) (i : Instr), s.driver = .request r :: rest → decode r = .ok i →
      (i ≠ .step → step s = exec i (s.setDriver rest)) ∧
      (∀ t, i = .step → exec .step (s.setDriver rest) = .next t → step s = .next (t.setRun t.runAfter)) ∧
      (∀ a, i = .step → exec .step (s.setDriver rest) = .refused a → step s = .refused a)) ∧
    (s.driver = [] → s.run = ⟨false, none⟩ →
      (∀ t, exec .step s = .next t → step s = .next (t.setRun t.runAfter)) ∧
      (∀ a, exec .step s = .refused a → step s = .refused a)) ∧
    (s.driver = [] → s.run = ⟨true, none⟩ → step s = .next s) ∧
    (∀ e, s.driver = [] → s.run.faulted = some e → step s = .fault (.runFaulted e)) ∧
    (s.runAfter.halted = true ↔ ∃ trace cycles hit, s.response.result = .stepDone false trace cycles hit) ∧
    (∀ e, s.run.faulted = some e → s.runAfter.faulted = some e) ∧
    (s.run.faulted = none → s.runAfter.faulted = s.response.err)
end

