-- ==== Sys2Proof/Laws/Flags.lean ====
section
/-! SUPPORT. The derived flags as comparisons of numbers, and the packed byte as a list of flags. -/

namespace Sys2Proof.Machine

/-- C of a 257-bit value: it is 2^256 or more. -/
theorem dC_eq {v : Nat} (h : v < 2 ^ 257) : dC v = decide (2 ^ 256 ≤ v) := by
  rw [dC, Nat.testBit_eq_decide_div_mod_eq]
  congr 1
  apply propext
  omega

/-- M of a value: its low 256 bits are 2^255 or more. -/
theorem dM_eq (v : Nat) : dM v = decide (2 ^ 255 ≤ v % 2 ^ 256) := by
  rw [dM, Nat.testBit_eq_decide_div_mod_eq]
  congr 1
  apply propext
  omega

/-- L of a value: it is odd. -/
theorem dL_eq (v : Nat) : dL v = decide (v % 2 = 1) := by
  simp [dL, Nat.testBit_eq_decide_div_mod_eq]

/-- Z of a 257-bit value: it is 0 or 2^256. -/
theorem dZ_eq {v : Nat} (h : v < 2 ^ 257) : dZ v = decide (v = 0 ∨ v = 2 ^ 256) := by
  unfold dZ
  congr 1
  apply propext
  omega

/-- The flags of the packed byte are the flags. -/
theorem Flags.unpack_pack (f : Flags) : Flags.unpack f.pack.toNat = f := by
  rcases f with ⟨a, b, c, d, e, f, g, h⟩
  revert a b c d e f g h
  decide

end Sys2Proof.Machine
end

