-- ==== Sys2Proof/Laws/Maps.lean ====
section
/-! SUPPORT. What the finite-map operations do: one read-back law each, and that they keep the keys rising. -/

namespace Sys2Proof.Machine

section

variable {κ α : Type} [DecidableEq κ] [LT κ] [DecidableLT κ]

/-- A put is read back at its key and leaves every other key alone. -/
theorem mapGet_mapPut (k j : κ) (v : α) (m : List (κ × α)) :
    mapGet j (mapPut k v m) = if k = j then some v else mapGet j m := by
  induction m with
  | nil => simp only [mapPut, mapGet]
  | cons p rest ih =>
    obtain ⟨i, u⟩ := p
    simp only [mapPut]
    split
    · next h => subst h; simp only [mapGet]; split <;> simp_all
    · split
      · simp only [mapGet]
      · simp only [mapGet, ih]; split <;> split <;> simp_all

/-- An entry of a put is the new one or an old one. -/
theorem mem_mapPut {k : κ} {v : α} {m : List (κ × α)} {p : κ × α} (h : p ∈ mapPut k v m) :
    p = (k, v) ∨ p ∈ m := by
  induction m with
  | nil => simp only [mapPut, List.mem_singleton] at h; exact .inl h
  | cons q rest ih =>
    obtain ⟨i, u⟩ := q
    simp only [mapPut] at h
    split at h
    · simp only [List.mem_cons] at h ⊢; tauto
    · split at h
      · simp only [List.mem_cons] at h ⊢; tauto
      · simp only [List.mem_cons] at h ⊢
        rcases h with h | h
        · tauto
        · rcases ih h with h | h <;> tauto

omit [LT κ] [DecidableLT κ] in
/-- An entry of an erase is an old one. -/
theorem mem_mapErase {k : κ} {m : List (κ × α)} {p : κ × α} (h : p ∈ mapErase k m) : p ∈ m := by
  induction m with
  | nil => exact h
  | cons q rest ih =>
    obtain ⟨i, u⟩ := q
    simp only [mapErase] at h
    split at h
    · exact List.mem_cons_of_mem _ h
    · simp only [List.mem_cons] at h ⊢
      rcases h with h | h
      · exact .inl h
      · exact .inr (ih h)

omit [LT κ] [DecidableLT κ] in
/-- What a lookup finds is an entry. -/
theorem mem_of_mapGet {k : κ} {v : α} {m : List (κ × α)} (h : mapGet k m = some v) : (k, v) ∈ m := by
  induction m with
  | nil => simp [mapGet] at h
  | cons q rest ih =>
    obtain ⟨i, u⟩ := q
    simp only [mapGet] at h
    split at h
    · next e => subst e; simp only [Option.some.injEq] at h; subst h; exact List.mem_cons_self
    · exact List.mem_cons_of_mem _ (ih h)

omit [DecidableLT κ] in
/-- An erase keeps the keys rising. -/
theorem mapErase_sorted (k : κ) {m : List (κ × α)} (h : MapSorted m) : MapSorted (mapErase k m) := by
  induction m with
  | nil => exact h
  | cons q rest ih =>
    obtain ⟨i, u⟩ := q
    simp only [mapErase]
    rw [MapSorted, List.pairwise_cons] at h
    split
    · exact h.2
    · exact List.pairwise_cons.mpr ⟨fun p hp => h.1 p (mem_mapErase hp), ih h.2⟩

variable (tri : ∀ a b : κ, a < b ∨ a = b ∨ b < a) (tr : ∀ a b c : κ, a < b → b < c → a < c)

include tri tr in
/-- A put keeps the keys rising. -/
theorem mapPut_sorted (k : κ) (v : α) {m : List (κ × α)} (h : MapSorted m) : MapSorted (mapPut k v m) := by
  induction m with
  | nil => exact List.pairwise_singleton _ _
  | cons q rest ih =>
    obtain ⟨i, u⟩ := q
    simp only [mapPut]
    rw [MapSorted, List.pairwise_cons] at h
    split
    · next e => subst e; exact List.pairwise_cons.mpr h
    · next ne =>
      split
      · next lt =>
        refine List.pairwise_cons.mpr ⟨fun p hp => ?_, List.pairwise_cons.mpr h⟩
        rcases List.mem_cons.mp hp with rfl | hp
        · exact lt
        · exact tr _ _ _ lt (h.1 p hp)
      · next nlt =>
        refine List.pairwise_cons.mpr ⟨fun p hp => ?_, ih h.2⟩
        rcases mem_mapPut hp with rfl | hp
        · rcases tri i k with h | h | h
          · exact h
          · exact absurd h.symm ne
          · exact absurd h nlt
        · exact h.1 p hp

variable (irr : ∀ a : κ, ¬ a < a)

omit [DecidableLT κ] in
include irr in
/-- With rising keys an erased key is gone and every other key is left alone. -/
theorem mapGet_mapErase (k j : κ) {m : List (κ × α)} (h : MapSorted m) :
    mapGet j (mapErase k m) = if k = j then none else mapGet j m := by
  induction m with
  | nil => simp [mapErase, mapGet]
  | cons q rest ih =>
    obtain ⟨i, u⟩ := q
    rw [MapSorted, List.pairwise_cons] at h
    simp only [mapErase]
    by_cases e : i = k
    · subst e
      simp only [↓reduceIte, mapGet]
      by_cases e2 : i = j
      · subst e2
        simp only [↓reduceIte]
        cases hg : mapGet i rest with
        | none => rfl
        | some v => exact absurd (h.1 _ (mem_of_mapGet hg)) (irr i)
      · simp [e2]
    · simp only [e, ↓reduceIte, mapGet, ih h.2]
      by_cases e2 : i = j
      · subst e2; simp [Ne.symm e]
      · simp [e2]

/-- Putting a key that is not there and erasing it again gives the map back. -/
theorem mapErase_mapPut (k : κ) (v : α) {m : List (κ × α)} (h : mapGet k m = none) :
    mapErase k (mapPut k v m) = m := by
  induction m with
  | nil => simp [mapErase, mapPut]
  | cons q rest ih =>
    obtain ⟨i, u⟩ := q
    simp only [mapGet] at h
    split at h
    · simp at h
    · next ne =>
      simp only [mapPut, Ne.symm ne, ↓reduceIte]
      split
      · simp [mapErase]
      · simp [mapErase, ne, ih h]

end

/-- Natural numbers rise in one order. -/
theorem nat_trichotomy (a b : Nat) : a < b ∨ a = b ∨ b < a := by omega

/-- Strings rise in one order. -/
theorem string_trichotomy (a b : String) : a < b ∨ a = b ∨ b < a := lt_trichotomy a b

/-- A put under a natural-number key keeps the keys rising. -/
theorem mapPut_sorted_nat {α : Type} (k : Nat) (v : α) {m : List (Nat × α)} (h : MapSorted m) :
    MapSorted (mapPut k v m) :=
  mapPut_sorted nat_trichotomy (fun _ _ _ => Nat.lt_trans) k v h

/-- A put under a mnemonic keeps the keys rising. -/
theorem mapPut_sorted_string {α : Type} (k : String) (v : α) {m : List (String × α)} (h : MapSorted m) :
    MapSorted (mapPut k v m) :=
  mapPut_sorted string_trichotomy (fun _ _ _ => lt_trans) k v h

end Sys2Proof.Machine
end

