-- ==== Sys2Proof/Laws/Memory.lean ====
section
/-! SUPPORT. What the memory operations do: a byte written is read back and every other byte is left alone, and every
operation keeps the canonical form. -/

namespace Sys2Proof.Machine

/-- A write of one byte keeps the canonical form. -/
theorem Memory.write_wf (m : Memory) (a : Nat) (b : Byte) (h : m.wf) : (m.write a b).wf := by
  unfold Memory.write
  split
  · exact ⟨mapErase_sorted a h.1, fun c hc => h.2 c (mem_mapErase hc)⟩
  · next hb =>
    refine ⟨mapPut_sorted_nat a b h.1, fun c hc => ?_⟩
    rcases mem_mapPut hc with rfl | hc
    · exact hb
    · exact h.2 c hc

/-- Every address listed after a write was listed or is the one written. -/
theorem Memory.mem_write {m : Memory} {a : Nat} {b : Byte} {c : Host.Cell} (h : c ∈ m.write a b) :
    c.1 = a ∨ c ∈ m := by
  unfold Memory.write at h
  split at h
  · exact .inr (mem_mapErase h)
  · rcases mem_mapPut h with rfl | h
    · exact .inl rfl
    · exact .inr h

/-- A byte written is read back, and every other byte is left alone. -/
theorem Memory.read_write (m : Memory) (a c : Nat) (b : Byte) (h : m.wf) :
    (m.write a b).read c = if a = c then b else m.read c := by
  unfold Memory.write Memory.read
  split
  · next hb =>
    rw [mapGet_mapErase Nat.lt_irrefl a c h.1]
    split <;> simp_all
  · rw [mapGet_mapPut]
    split <;> simp_all

/-- A write of n bytes keeps the canonical form. -/
theorem Memory.writeBytes_wf (m : Memory) (a n v : Nat) (h : m.wf) : (m.writeBytes a n v).wf := by
  induction n generalizing m a v with
  | zero => exact h
  | succ n ih => exact ih _ _ _ (Memory.write_wf m a _ h)

/-- Every address listed after a write of n bytes was listed or is one of the n. -/
theorem Memory.mem_writeBytes {m : Memory} {a n v : Nat} {c : Host.Cell} (h : c ∈ m.writeBytes a n v) :
    (a ≤ c.1 ∧ c.1 < a + n) ∨ c ∈ m := by
  induction n generalizing m a v with
  | zero => exact .inr h
  | succ n ih =>
    rcases ih h with h | h
    · left; omega
    · rcases Memory.mem_write h with h | h
      · left; omega
      · exact .inr h

/-- A write of n bytes leaves every byte outside them alone. -/
theorem Memory.read_writeBytes_outside (m : Memory) (a n v c : Nat) (h : m.wf) (hc : c < a ∨ a + n ≤ c) :
    (m.writeBytes a n v).read c = m.read c := by
  induction n generalizing m a v with
  | zero => rfl
  | succ n ih =>
    rw [Memory.writeBytes, ih _ _ _ (Memory.write_wf m a _ h) (by omega), Memory.read_write _ _ _ _ h,
      if_neg (by omega)]

/-- Byte i of a write of n bytes is byte i of the value, little-endian. -/
theorem Memory.read_writeBytes_inside (m : Memory) (a n v i : Nat) (h : m.wf) (hi : i < n) :
    (m.writeBytes a n v).read (a + i) = BitVec.ofNat 8 (v / 256 ^ i) := by
  induction n generalizing m a v i with
  | zero => omega
  | succ n ih =>
    rw [Memory.writeBytes]
    cases i with
    | zero =>
      rw [Memory.read_writeBytes_outside _ _ _ _ _ (Memory.write_wf m a _ h) (by omega),
        Memory.read_write _ _ _ _ h]
      simp
    | succ i =>
      have e : a + (i + 1) = a + 1 + i := by omega
      rw [e, ih _ _ _ _ (Memory.write_wf m a _ h) (by omega), Nat.div_div_eq_div_mul, Nat.pow_succ,
        Nat.mul_comm 256]

/-- n bytes are read alike from two memories that agree on them. -/
theorem Memory.readBytes_congr {m m' : Memory} {a n : Nat}
    (h : ∀ i < n, m.read (a + i) = m'.read (a + i)) : m.readBytes a n = m'.readBytes a n := by
  induction n generalizing a with
  | zero => rfl
  | succ n ih =>
    have h0 := h 0 (by omega)
    simp only [Nat.add_zero] at h0
    rw [Memory.readBytes, Memory.readBytes, h0, ih fun i hi => ?_]
    have := h (i + 1) (by omega)
    rwa [show a + (i + 1) = a + 1 + i from by omega] at this

/-- n bytes written are read back together. -/
theorem Memory.readBytes_writeBytes (m : Memory) (a n v : Nat) (h : m.wf) :
    (m.writeBytes a n v).readBytes a n = v % 256 ^ n := by
  induction n generalizing m a v with
  | zero => simp [Memory.readBytes, Nat.mod_one]
  | succ n ih =>
    have hw := Memory.write_wf m a (BitVec.ofNat 8 v) h
    rw [Memory.writeBytes, Memory.readBytes, ih _ _ _ hw,
      Memory.read_writeBytes_outside _ _ _ _ _ hw (by omega), Memory.read_write _ _ _ _ h, if_pos rfl]
    have e : (BitVec.ofNat 8 v).toNat = v % 256 := BitVec.toNat_ofNat v 8
    rw [e, show (256 : Nat) ^ (n + 1) = 256 * 256 ^ n by ring, Nat.mod_mul]

/-- The bytes of a range are unchanged by a write outside it. -/
theorem Memory.readBytes_writeBytes_outside (m : Memory) (a n b k v : Nat) (h : m.wf)
    (hd : a + n ≤ b ∨ b + k ≤ a) : (m.writeBytes b k v).readBytes a n = m.readBytes a n :=
  Memory.readBytes_congr fun i hi => Memory.read_writeBytes_outside _ _ _ _ _ h (by omega)

/-- n bytes read as a number below 256^n. -/
theorem Memory.readBytes_lt (m : Memory) (a n : Nat) : m.readBytes a n < 256 ^ n := by
  induction n generalizing a with
  | zero => simp [Memory.readBytes]
  | succ n ih =>
    have h1 := ih (a + 1)
    have h2 : (m.read a).toNat < 256 := (m.read a).isLt
    rw [Memory.readBytes, Nat.pow_succ]
    omega

/-- n bytes read in two parts. -/
theorem Memory.readBytes_append (m : Memory) (a n k : Nat) :
    m.readBytes a (n + k) = m.readBytes a n + 256 ^ n * m.readBytes (a + n) k := by
  induction n generalizing a with
  | zero => simp [Memory.readBytes]
  | succ n ih =>
    have e : n + 1 + k = (n + k) + 1 := by omega
    rw [e, Memory.readBytes, Memory.readBytes, ih, show a + 1 + n = a + (n + 1) by omega, Nat.pow_succ]
    ring

/-- A write of a cell keeps the canonical form. -/
theorem State.writeCell_memory_wf (s : State) (a v : Nat) (h : s.dmem.wf) : (s.writeCell a v).dmem.wf :=
  Memory.writeBytes_wf _ _ _ _ h

/-- A write of a limb keeps the canonical form. -/
theorem State.writeMemLimb_memory_wf (s : State) (b x : Nat) (h : s.dmem.wf) : (s.writeMemLimb b x).dmem.wf :=
  Memory.writeBytes_wf _ _ _ _ h

/-- A power of 2 that is a whole number of limbs is a power of 256. -/
theorem two_pow_limbs (i : Nat) : (2 : Nat) ^ (32 * i) = 256 ^ (4 * i) := by
  rw [show 32 * i = 8 * (4 * i) by omega, Nat.pow_mul]

/-- 32 bytes read as a number below 2^256. -/
theorem Memory.readBytes_lt_wide (m : Memory) (a : Nat) : m.readBytes a 32 < 2 ^ 256 := by
  have h := Memory.readBytes_lt m a 32
  have e : (256 : Nat) ^ 32 = 2 ^ 256 := by norm_num
  rw [← e]
  exact h

/-- Byte k of n bytes read together is the byte at that place. -/
theorem Memory.readBytes_byte (m : Memory) (a n k : Nat) (h : k < n) :
    m.readBytes a n / 256 ^ k % 256 = (m.read (a + k)).toNat := by
  induction n generalizing a k with
  | zero => omega
  | succ n ih =>
    have h2 : (m.read a).toNat < 256 := (m.read a).isLt
    cases k with
    | zero => simp only [Memory.readBytes, Nat.pow_zero, Nat.div_one, Nat.add_zero]; omega
    | succ k =>
      rw [Memory.readBytes, Nat.pow_succ, Nat.mul_comm (256 ^ k), ← Nat.div_div_eq_div_mul,
        show ((m.read a).toNat + 256 * m.readBytes (a + 1) n) / 256 = m.readBytes (a + 1) n by omega,
        ih _ _ (by omega), show a + 1 + k = a + (k + 1) by omega]

/-- The limb at a byte address is the limb of its cell. -/
theorem State.readMemLimb_eq (s : State) (b : Nat) : s.readMemLimb b = limb (s.readCell (b / 32)) (b % 32 / 4) := by
  obtain ⟨i, hi⟩ : ∃ i, b % 32 / 4 = i := ⟨_, rfl⟩
  have e2 : limbBase b = 32 * (b / 32) + 4 * i := by rw [← hi]; rfl
  obtain ⟨a, ha⟩ : ∃ a, 32 * (b / 32) = a := ⟨_, rfl⟩
  have e : 32 = 4 * i + (4 + (28 - 4 * i)) := by omega
  have h := Memory.readBytes_append s.dmem a (4 * i) (4 + (28 - 4 * i))
  rw [← e, Memory.readBytes_append s.dmem _ 4] at h
  apply BitVec.eq_of_toNat_eq
  simp only [State.readMemLimb, limb, part, BitVec.extractLsb'_toNat, State.readCell, BitVec.toNat_ofNat]
  rw [e2, ha, Nat.mod_eq_of_lt (Memory.readBytes_lt_wide s.dmem a), Nat.shiftRight_eq_div_pow, h, hi, two_pow_limbs,
    Nat.add_comm (s.dmem.readBytes a (4 * i)), Nat.mul_add_div (by positivity),
    Nat.div_eq_of_lt (Memory.readBytes_lt _ _ _), Nat.add_zero]
  omega

/-- A limb written inside 32 bytes: the bytes below and above it are as before. -/
theorem Memory.readBytes_writeBytes_limb (m : Memory) (hm : m.wf) (a i x : Nat) (hx : x < 256 ^ 4) (hi : i < 8) :
    ∃ low high, low < 256 ^ (4 * i) ∧
      m.readBytes a 32 = low + 256 ^ (4 * i) * (m.readBytes (a + 4 * i) 4 + 256 ^ 4 * high) ∧
      (m.writeBytes (a + 4 * i) 4 x).readBytes a 32 = low + 256 ^ (4 * i) * (x + 256 ^ 4 * high) := by
  have e : 32 = 4 * i + (4 + (28 - 4 * i)) := by omega
  have h1 := Memory.readBytes_append m a (4 * i) (4 + (28 - 4 * i))
  have h2 := Memory.readBytes_append (m.writeBytes (a + 4 * i) 4 x) a (4 * i) (4 + (28 - 4 * i))
  rw [← e] at h1 h2
  refine ⟨m.readBytes a (4 * i), m.readBytes (a + 4 * i + 4) (28 - 4 * i), Memory.readBytes_lt _ _ _, ?_, ?_⟩
  · rw [h1, Memory.readBytes_append m _ 4]
  · rw [h2, Memory.readBytes_append _ _ 4, Memory.readBytes_writeBytes _ _ _ _ hm, Nat.mod_eq_of_lt hx,
      Memory.readBytes_writeBytes_outside _ _ _ _ _ _ hm (by omega),
      Memory.readBytes_writeBytes_outside _ _ _ _ _ _ hm (by omega)]

/-- Marking a cell sets its initialised bit and no other. -/
theorem getLsbD_markCell (d : BitVec 128) (a b : Nat) (ha : a < 128) :
    (d ||| BitVec.ofNat 128 (2 ^ a)).getLsbD b = (d.getLsbD b || decide (b = a)) := by
  rw [BitVec.getLsbD_or, BitVec.getLsbD_ofNat, Nat.testBit_two_pow]
  by_cases h : b = a
  · subst h; simp [ha]
  · simp [h, Ne.symm h]

end Sys2Proof.Machine
end

