-- ==== Sys2Proof/Laws/State.lean ====
section
/-! SUPPORT. One lemma per field per update of State, each true by rfl, so that no proof unfolds a record update;
and that State.reset's memory has its canonical form. -/

namespace Sys2Proof.Machine

/-! ### setW -/

@[simp] theorem State.setW_config (s : State) (v : Vector Wide 32) : (s.setW v).config = s.config := rfl
@[simp] theorem State.setW_params (s : State) (v : Vector Wide 32) : (s.setW v).params = s.params := rfl
@[simp] theorem State.setW_w (s : State) (v : Vector Wide 32) : (s.setW v).w = v := rfl
@[simp] theorem State.setW_valid (s : State) (v : Vector Wide 32) : (s.setW v).valid = s.valid := rfl
@[simp] theorem State.setW_sp (s : State) (v : Vector Wide 32) : (s.setW v).sp = s.sp := rfl
@[simp] theorem State.setW_xs (s : State) (v : Vector Wide 32) : (s.setW v).xs = s.xs := rfl
@[simp] theorem State.setW_flags (s : State) (v : Vector Wide 32) : (s.setW v).flags = s.flags := rfl
@[simp] theorem State.setW_dmem (s : State) (v : Vector Wide 32) : (s.setW v).dmem = s.dmem := rfl
@[simp] theorem State.setW_dinit (s : State) (v : Vector Wide 32) : (s.setW v).dinit = s.dinit := rfl
@[simp] theorem State.setW_ls (s : State) (v : Vector Wide 32) : (s.setW v).ls = s.ls := rfl
@[simp] theorem State.setW_cs (s : State) (v : Vector Wide 32) : (s.setW v).cs = s.cs := rfl
@[simp] theorem State.setW_pc (s : State) (v : Vector Wide 32) : (s.setW v).pc = s.pc := rfl
@[simp] theorem State.setW_stopAddr (s : State) (v : Vector Wide 32) : (s.setW v).stopAddr = s.stopAddr := rfl
@[simp] theorem State.setW_finish (s : State) (v : Vector Wide 32) : (s.setW v).finish = s.finish := rfl
@[simp] theorem State.setW_bp (s : State) (v : Vector Wide 32) : (s.setW v).bp = s.bp := rfl
@[simp] theorem State.setW_fb (s : State) (v : Vector Wide 32) : (s.setW v).fb = s.fb := rfl
@[simp] theorem State.setW_hist (s : State) (v : Vector Wide 32) : (s.setW v).hist = s.hist := rfl
@[simp] theorem State.setW_driver (s : State) (v : Vector Wide 32) : (s.setW v).driver = s.driver := rfl
@[simp] theorem State.setW_response (s : State) (v : Vector Wide 32) : (s.setW v).response = s.response := rfl
@[simp] theorem State.setW_run (s : State) (v : Vector Wide 32) : (s.setW v).run = s.run := rfl
@[simp] theorem State.setW_setW (s : State) (u v : Vector Wide 32) : (s.setW u).setW v = s.setW v := rfl
@[simp] theorem State.setW_self (s : State) : s.setW s.w = s := rfl

/-! ### setValid -/

@[simp] theorem State.setValid_config (s : State) (v : Vector (BitVec 16) 32) : (s.setValid v).config = s.config := rfl
@[simp] theorem State.setValid_params (s : State) (v : Vector (BitVec 16) 32) : (s.setValid v).params = s.params := rfl
@[simp] theorem State.setValid_w (s : State) (v : Vector (BitVec 16) 32) : (s.setValid v).w = s.w := rfl
@[simp] theorem State.setValid_valid (s : State) (v : Vector (BitVec 16) 32) : (s.setValid v).valid = v := rfl
@[simp] theorem State.setValid_sp (s : State) (v : Vector (BitVec 16) 32) : (s.setValid v).sp = s.sp := rfl
@[simp] theorem State.setValid_xs (s : State) (v : Vector (BitVec 16) 32) : (s.setValid v).xs = s.xs := rfl
@[simp] theorem State.setValid_flags (s : State) (v : Vector (BitVec 16) 32) : (s.setValid v).flags = s.flags := rfl
@[simp] theorem State.setValid_dmem (s : State) (v : Vector (BitVec 16) 32) : (s.setValid v).dmem = s.dmem := rfl
@[simp] theorem State.setValid_dinit (s : State) (v : Vector (BitVec 16) 32) : (s.setValid v).dinit = s.dinit := rfl
@[simp] theorem State.setValid_ls (s : State) (v : Vector (BitVec 16) 32) : (s.setValid v).ls = s.ls := rfl
@[simp] theorem State.setValid_cs (s : State) (v : Vector (BitVec 16) 32) : (s.setValid v).cs = s.cs := rfl
@[simp] theorem State.setValid_pc (s : State) (v : Vector (BitVec 16) 32) : (s.setValid v).pc = s.pc := rfl
@[simp] theorem State.setValid_stopAddr (s : State) (v : Vector (BitVec 16) 32) : (s.setValid v).stopAddr = s.stopAddr := rfl
@[simp] theorem State.setValid_finish (s : State) (v : Vector (BitVec 16) 32) : (s.setValid v).finish = s.finish := rfl
@[simp] theorem State.setValid_bp (s : State) (v : Vector (BitVec 16) 32) : (s.setValid v).bp = s.bp := rfl
@[simp] theorem State.setValid_fb (s : State) (v : Vector (BitVec 16) 32) : (s.setValid v).fb = s.fb := rfl
@[simp] theorem State.setValid_hist (s : State) (v : Vector (BitVec 16) 32) : (s.setValid v).hist = s.hist := rfl
@[simp] theorem State.setValid_driver (s : State) (v : Vector (BitVec 16) 32) : (s.setValid v).driver = s.driver := rfl
@[simp] theorem State.setValid_response (s : State) (v : Vector (BitVec 16) 32) : (s.setValid v).response = s.response := rfl
@[simp] theorem State.setValid_run (s : State) (v : Vector (BitVec 16) 32) : (s.setValid v).run = s.run := rfl
@[simp] theorem State.setValid_setValid (s : State) (u v : Vector (BitVec 16) 32) : (s.setValid u).setValid v = s.setValid v := rfl
@[simp] theorem State.setValid_self (s : State) : s.setValid s.valid = s := rfl

/-! ### setSp -/

@[simp] theorem State.setSp_config (s : State) (v : Special) : (s.setSp v).config = s.config := rfl
@[simp] theorem State.setSp_params (s : State) (v : Special) : (s.setSp v).params = s.params := rfl
@[simp] theorem State.setSp_w (s : State) (v : Special) : (s.setSp v).w = s.w := rfl
@[simp] theorem State.setSp_valid (s : State) (v : Special) : (s.setSp v).valid = s.valid := rfl
@[simp] theorem State.setSp_sp (s : State) (v : Special) : (s.setSp v).sp = v := rfl
@[simp] theorem State.setSp_xs (s : State) (v : Special) : (s.setSp v).xs = s.xs := rfl
@[simp] theorem State.setSp_flags (s : State) (v : Special) : (s.setSp v).flags = s.flags := rfl
@[simp] theorem State.setSp_dmem (s : State) (v : Special) : (s.setSp v).dmem = s.dmem := rfl
@[simp] theorem State.setSp_dinit (s : State) (v : Special) : (s.setSp v).dinit = s.dinit := rfl
@[simp] theorem State.setSp_ls (s : State) (v : Special) : (s.setSp v).ls = s.ls := rfl
@[simp] theorem State.setSp_cs (s : State) (v : Special) : (s.setSp v).cs = s.cs := rfl
@[simp] theorem State.setSp_pc (s : State) (v : Special) : (s.setSp v).pc = s.pc := rfl
@[simp] theorem State.setSp_stopAddr (s : State) (v : Special) : (s.setSp v).stopAddr = s.stopAddr := rfl
@[simp] theorem State.setSp_finish (s : State) (v : Special) : (s.setSp v).finish = s.finish := rfl
@[simp] theorem State.setSp_bp (s : State) (v : Special) : (s.setSp v).bp = s.bp := rfl
@[simp] theorem State.setSp_fb (s : State) (v : Special) : (s.setSp v).fb = s.fb := rfl
@[simp] theorem State.setSp_hist (s : State) (v : Special) : (s.setSp v).hist = s.hist := rfl
@[simp] theorem State.setSp_driver (s : State) (v : Special) : (s.setSp v).driver = s.driver := rfl
@[simp] theorem State.setSp_response (s : State) (v : Special) : (s.setSp v).response = s.response := rfl
@[simp] theorem State.setSp_run (s : State) (v : Special) : (s.setSp v).run = s.run := rfl
@[simp] theorem State.setSp_setSp (s : State) (u v : Special) : (s.setSp u).setSp v = s.setSp v := rfl
@[simp] theorem State.setSp_self (s : State) : s.setSp s.sp = s := rfl

/-! ### setXs -/

@[simp] theorem State.setXs_config (s : State) (v : Vector Limb 6) : (s.setXs v).config = s.config := rfl
@[simp] theorem State.setXs_params (s : State) (v : Vector Limb 6) : (s.setXs v).params = s.params := rfl
@[simp] theorem State.setXs_w (s : State) (v : Vector Limb 6) : (s.setXs v).w = s.w := rfl
@[simp] theorem State.setXs_valid (s : State) (v : Vector Limb 6) : (s.setXs v).valid = s.valid := rfl
@[simp] theorem State.setXs_sp (s : State) (v : Vector Limb 6) : (s.setXs v).sp = s.sp := rfl
@[simp] theorem State.setXs_xs (s : State) (v : Vector Limb 6) : (s.setXs v).xs = v := rfl
@[simp] theorem State.setXs_flags (s : State) (v : Vector Limb 6) : (s.setXs v).flags = s.flags := rfl
@[simp] theorem State.setXs_dmem (s : State) (v : Vector Limb 6) : (s.setXs v).dmem = s.dmem := rfl
@[simp] theorem State.setXs_dinit (s : State) (v : Vector Limb 6) : (s.setXs v).dinit = s.dinit := rfl
@[simp] theorem State.setXs_ls (s : State) (v : Vector Limb 6) : (s.setXs v).ls = s.ls := rfl
@[simp] theorem State.setXs_cs (s : State) (v : Vector Limb 6) : (s.setXs v).cs = s.cs := rfl
@[simp] theorem State.setXs_pc (s : State) (v : Vector Limb 6) : (s.setXs v).pc = s.pc := rfl
@[simp] theorem State.setXs_stopAddr (s : State) (v : Vector Limb 6) : (s.setXs v).stopAddr = s.stopAddr := rfl
@[simp] theorem State.setXs_finish (s : State) (v : Vector Limb 6) : (s.setXs v).finish = s.finish := rfl
@[simp] theorem State.setXs_bp (s : State) (v : Vector Limb 6) : (s.setXs v).bp = s.bp := rfl
@[simp] theorem State.setXs_fb (s : State) (v : Vector Limb 6) : (s.setXs v).fb = s.fb := rfl
@[simp] theorem State.setXs_hist (s : State) (v : Vector Limb 6) : (s.setXs v).hist = s.hist := rfl
@[simp] theorem State.setXs_driver (s : State) (v : Vector Limb 6) : (s.setXs v).driver = s.driver := rfl
@[simp] theorem State.setXs_response (s : State) (v : Vector Limb 6) : (s.setXs v).response = s.response := rfl
@[simp] theorem State.setXs_run (s : State) (v : Vector Limb 6) : (s.setXs v).run = s.run := rfl
@[simp] theorem State.setXs_setXs (s : State) (u v : Vector Limb 6) : (s.setXs u).setXs v = s.setXs v := rfl
@[simp] theorem State.setXs_self (s : State) : s.setXs s.xs = s := rfl

/-! ### setFlags -/

@[simp] theorem State.setFlags_config (s : State) (v : Flags) : (s.setFlags v).config = s.config := rfl
@[simp] theorem State.setFlags_params (s : State) (v : Flags) : (s.setFlags v).params = s.params := rfl
@[simp] theorem State.setFlags_w (s : State) (v : Flags) : (s.setFlags v).w = s.w := rfl
@[simp] theorem State.setFlags_valid (s : State) (v : Flags) : (s.setFlags v).valid = s.valid := rfl
@[simp] theorem State.setFlags_sp (s : State) (v : Flags) : (s.setFlags v).sp = s.sp := rfl
@[simp] theorem State.setFlags_xs (s : State) (v : Flags) : (s.setFlags v).xs = s.xs := rfl
@[simp] theorem State.setFlags_flags (s : State) (v : Flags) : (s.setFlags v).flags = v := rfl
@[simp] theorem State.setFlags_dmem (s : State) (v : Flags) : (s.setFlags v).dmem = s.dmem := rfl
@[simp] theorem State.setFlags_dinit (s : State) (v : Flags) : (s.setFlags v).dinit = s.dinit := rfl
@[simp] theorem State.setFlags_ls (s : State) (v : Flags) : (s.setFlags v).ls = s.ls := rfl
@[simp] theorem State.setFlags_cs (s : State) (v : Flags) : (s.setFlags v).cs = s.cs := rfl
@[simp] theorem State.setFlags_pc (s : State) (v : Flags) : (s.setFlags v).pc = s.pc := rfl
@[simp] theorem State.setFlags_stopAddr (s : State) (v : Flags) : (s.setFlags v).stopAddr = s.stopAddr := rfl
@[simp] theorem State.setFlags_finish (s : State) (v : Flags) : (s.setFlags v).finish = s.finish := rfl
@[simp] theorem State.setFlags_bp (s : State) (v : Flags) : (s.setFlags v).bp = s.bp := rfl
@[simp] theorem State.setFlags_fb (s : State) (v : Flags) : (s.setFlags v).fb = s.fb := rfl
@[simp] theorem State.setFlags_hist (s : State) (v : Flags) : (s.setFlags v).hist = s.hist := rfl
@[simp] theorem State.setFlags_driver (s : State) (v : Flags) : (s.setFlags v).driver = s.driver := rfl
@[simp] theorem State.setFlags_response (s : State) (v : Flags) : (s.setFlags v).response = s.response := rfl
@[simp] theorem State.setFlags_run (s : State) (v : Flags) : (s.setFlags v).run = s.run := rfl
@[simp] theorem State.setFlags_setFlags (s : State) (u v : Flags) : (s.setFlags u).setFlags v = s.setFlags v := rfl
@[simp] theorem State.setFlags_self (s : State) : s.setFlags s.flags = s := rfl

/-! ### setDmem -/

@[simp] theorem State.setDmem_config (s : State) (v : Memory) : (s.setDmem v).config = s.config := rfl
@[simp] theorem State.setDmem_params (s : State) (v : Memory) : (s.setDmem v).params = s.params := rfl
@[simp] theorem State.setDmem_w (s : State) (v : Memory) : (s.setDmem v).w = s.w := rfl
@[simp] theorem State.setDmem_valid (s : State) (v : Memory) : (s.setDmem v).valid = s.valid := rfl
@[simp] theorem State.setDmem_sp (s : State) (v : Memory) : (s.setDmem v).sp = s.sp := rfl
@[simp] theorem State.setDmem_xs (s : State) (v : Memory) : (s.setDmem v).xs = s.xs := rfl
@[simp] theorem State.setDmem_flags (s : State) (v : Memory) : (s.setDmem v).flags = s.flags := rfl
@[simp] theorem State.setDmem_dmem (s : State) (v : Memory) : (s.setDmem v).dmem = v := rfl
@[simp] theorem State.setDmem_dinit (s : State) (v : Memory) : (s.setDmem v).dinit = s.dinit := rfl
@[simp] theorem State.setDmem_ls (s : State) (v : Memory) : (s.setDmem v).ls = s.ls := rfl
@[simp] theorem State.setDmem_cs (s : State) (v : Memory) : (s.setDmem v).cs = s.cs := rfl
@[simp] theorem State.setDmem_pc (s : State) (v : Memory) : (s.setDmem v).pc = s.pc := rfl
@[simp] theorem State.setDmem_stopAddr (s : State) (v : Memory) : (s.setDmem v).stopAddr = s.stopAddr := rfl
@[simp] theorem State.setDmem_finish (s : State) (v : Memory) : (s.setDmem v).finish = s.finish := rfl
@[simp] theorem State.setDmem_bp (s : State) (v : Memory) : (s.setDmem v).bp = s.bp := rfl
@[simp] theorem State.setDmem_fb (s : State) (v : Memory) : (s.setDmem v).fb = s.fb := rfl
@[simp] theorem State.setDmem_hist (s : State) (v : Memory) : (s.setDmem v).hist = s.hist := rfl
@[simp] theorem State.setDmem_driver (s : State) (v : Memory) : (s.setDmem v).driver = s.driver := rfl
@[simp] theorem State.setDmem_response (s : State) (v : Memory) : (s.setDmem v).response = s.response := rfl
@[simp] theorem State.setDmem_run (s : State) (v : Memory) : (s.setDmem v).run = s.run := rfl
@[simp] theorem State.setDmem_setDmem (s : State) (u v : Memory) : (s.setDmem u).setDmem v = s.setDmem v := rfl
@[simp] theorem State.setDmem_self (s : State) : s.setDmem s.dmem = s := rfl

/-! ### setDinit -/

@[simp] theorem State.setDinit_config (s : State) (v : BitVec 128) : (s.setDinit v).config = s.config := rfl
@[simp] theorem State.setDinit_params (s : State) (v : BitVec 128) : (s.setDinit v).params = s.params := rfl
@[simp] theorem State.setDinit_w (s : State) (v : BitVec 128) : (s.setDinit v).w = s.w := rfl
@[simp] theorem State.setDinit_valid (s : State) (v : BitVec 128) : (s.setDinit v).valid = s.valid := rfl
@[simp] theorem State.setDinit_sp (s : State) (v : BitVec 128) : (s.setDinit v).sp = s.sp := rfl
@[simp] theorem State.setDinit_xs (s : State) (v : BitVec 128) : (s.setDinit v).xs = s.xs := rfl
@[simp] theorem State.setDinit_flags (s : State) (v : BitVec 128) : (s.setDinit v).flags = s.flags := rfl
@[simp] theorem State.setDinit_dmem (s : State) (v : BitVec 128) : (s.setDinit v).dmem = s.dmem := rfl
@[simp] theorem State.setDinit_dinit (s : State) (v : BitVec 128) : (s.setDinit v).dinit = v := rfl
@[simp] theorem State.setDinit_ls (s : State) (v : BitVec 128) : (s.setDinit v).ls = s.ls := rfl
@[simp] theorem State.setDinit_cs (s : State) (v : BitVec 128) : (s.setDinit v).cs = s.cs := rfl
@[simp] theorem State.setDinit_pc (s : State) (v : BitVec 128) : (s.setDinit v).pc = s.pc := rfl
@[simp] theorem State.setDinit_stopAddr (s : State) (v : BitVec 128) : (s.setDinit v).stopAddr = s.stopAddr := rfl
@[simp] theorem State.setDinit_finish (s : State) (v : BitVec 128) : (s.setDinit v).finish = s.finish := rfl
@[simp] theorem State.setDinit_bp (s : State) (v : BitVec 128) : (s.setDinit v).bp = s.bp := rfl
@[simp] theorem State.setDinit_fb (s : State) (v : BitVec 128) : (s.setDinit v).fb = s.fb := rfl
@[simp] theorem State.setDinit_hist (s : State) (v : BitVec 128) : (s.setDinit v).hist = s.hist := rfl
@[simp] theorem State.setDinit_driver (s : State) (v : BitVec 128) : (s.setDinit v).driver = s.driver := rfl
@[simp] theorem State.setDinit_response (s : State) (v : BitVec 128) : (s.setDinit v).response = s.response := rfl
@[simp] theorem State.setDinit_run (s : State) (v : BitVec 128) : (s.setDinit v).run = s.run := rfl
@[simp] theorem State.setDinit_setDinit (s : State) (u v : BitVec 128) : (s.setDinit u).setDinit v = s.setDinit v := rfl
@[simp] theorem State.setDinit_self (s : State) : s.setDinit s.dinit = s := rfl

/-! ### setLs -/

@[simp] theorem State.setLs_config (s : State) (v : List LoopEntry) : (s.setLs v).config = s.config := rfl
@[simp] theorem State.setLs_params (s : State) (v : List LoopEntry) : (s.setLs v).params = s.params := rfl
@[simp] theorem State.setLs_w (s : State) (v : List LoopEntry) : (s.setLs v).w = s.w := rfl
@[simp] theorem State.setLs_valid (s : State) (v : List LoopEntry) : (s.setLs v).valid = s.valid := rfl
@[simp] theorem State.setLs_sp (s : State) (v : List LoopEntry) : (s.setLs v).sp = s.sp := rfl
@[simp] theorem State.setLs_xs (s : State) (v : List LoopEntry) : (s.setLs v).xs = s.xs := rfl
@[simp] theorem State.setLs_flags (s : State) (v : List LoopEntry) : (s.setLs v).flags = s.flags := rfl
@[simp] theorem State.setLs_dmem (s : State) (v : List LoopEntry) : (s.setLs v).dmem = s.dmem := rfl
@[simp] theorem State.setLs_dinit (s : State) (v : List LoopEntry) : (s.setLs v).dinit = s.dinit := rfl
@[simp] theorem State.setLs_ls (s : State) (v : List LoopEntry) : (s.setLs v).ls = v := rfl
@[simp] theorem State.setLs_cs (s : State) (v : List LoopEntry) : (s.setLs v).cs = s.cs := rfl
@[simp] theorem State.setLs_pc (s : State) (v : List LoopEntry) : (s.setLs v).pc = s.pc := rfl
@[simp] theorem State.setLs_stopAddr (s : State) (v : List LoopEntry) : (s.setLs v).stopAddr = s.stopAddr := rfl
@[simp] theorem State.setLs_finish (s : State) (v : List LoopEntry) : (s.setLs v).finish = s.finish := rfl
@[simp] theorem State.setLs_bp (s : State) (v : List LoopEntry) : (s.setLs v).bp = s.bp := rfl
@[simp] theorem State.setLs_fb (s : State) (v : List LoopEntry) : (s.setLs v).fb = s.fb := rfl
@[simp] theorem State.setLs_hist (s : State) (v : List LoopEntry) : (s.setLs v).hist = s.hist := rfl
@[simp] theorem State.setLs_driver (s : State) (v : List LoopEntry) : (s.setLs v).driver = s.driver := rfl
@[simp] theorem State.setLs_response (s : State) (v : List LoopEntry) : (s.setLs v).response = s.response := rfl
@[simp] theorem State.setLs_run (s : State) (v : List LoopEntry) : (s.setLs v).run = s.run := rfl
@[simp] theorem State.setLs_setLs (s : State) (u v : List LoopEntry) : (s.setLs u).setLs v = s.setLs v := rfl
@[simp] theorem State.setLs_self (s : State) : s.setLs s.ls = s := rfl

/-! ### setCs -/

@[simp] theorem State.setCs_config (s : State) (v : List Limb) : (s.setCs v).config = s.config := rfl
@[simp] theorem State.setCs_params (s : State) (v : List Limb) : (s.setCs v).params = s.params := rfl
@[simp] theorem State.setCs_w (s : State) (v : List Limb) : (s.setCs v).w = s.w := rfl
@[simp] theorem State.setCs_valid (s : State) (v : List Limb) : (s.setCs v).valid = s.valid := rfl
@[simp] theorem State.setCs_sp (s : State) (v : List Limb) : (s.setCs v).sp = s.sp := rfl
@[simp] theorem State.setCs_xs (s : State) (v : List Limb) : (s.setCs v).xs = s.xs := rfl
@[simp] theorem State.setCs_flags (s : State) (v : List Limb) : (s.setCs v).flags = s.flags := rfl
@[simp] theorem State.setCs_dmem (s : State) (v : List Limb) : (s.setCs v).dmem = s.dmem := rfl
@[simp] theorem State.setCs_dinit (s : State) (v : List Limb) : (s.setCs v).dinit = s.dinit := rfl
@[simp] theorem State.setCs_ls (s : State) (v : List Limb) : (s.setCs v).ls = s.ls := rfl
@[simp] theorem State.setCs_cs (s : State) (v : List Limb) : (s.setCs v).cs = v := rfl
@[simp] theorem State.setCs_pc (s : State) (v : List Limb) : (s.setCs v).pc = s.pc := rfl
@[simp] theorem State.setCs_stopAddr (s : State) (v : List Limb) : (s.setCs v).stopAddr = s.stopAddr := rfl
@[simp] theorem State.setCs_finish (s : State) (v : List Limb) : (s.setCs v).finish = s.finish := rfl
@[simp] theorem State.setCs_bp (s : State) (v : List Limb) : (s.setCs v).bp = s.bp := rfl
@[simp] theorem State.setCs_fb (s : State) (v : List Limb) : (s.setCs v).fb = s.fb := rfl
@[simp] theorem State.setCs_hist (s : State) (v : List Limb) : (s.setCs v).hist = s.hist := rfl
@[simp] theorem State.setCs_driver (s : State) (v : List Limb) : (s.setCs v).driver = s.driver := rfl
@[simp] theorem State.setCs_response (s : State) (v : List Limb) : (s.setCs v).response = s.response := rfl
@[simp] theorem State.setCs_run (s : State) (v : List Limb) : (s.setCs v).run = s.run := rfl
@[simp] theorem State.setCs_setCs (s : State) (u v : List Limb) : (s.setCs u).setCs v = s.setCs v := rfl
@[simp] theorem State.setCs_self (s : State) : s.setCs s.cs = s := rfl

/-! ### setPc -/

@[simp] theorem State.setPc_config (s : State) (v : Nat) : (s.setPc v).config = s.config := rfl
@[simp] theorem State.setPc_params (s : State) (v : Nat) : (s.setPc v).params = s.params := rfl
@[simp] theorem State.setPc_w (s : State) (v : Nat) : (s.setPc v).w = s.w := rfl
@[simp] theorem State.setPc_valid (s : State) (v : Nat) : (s.setPc v).valid = s.valid := rfl
@[simp] theorem State.setPc_sp (s : State) (v : Nat) : (s.setPc v).sp = s.sp := rfl
@[simp] theorem State.setPc_xs (s : State) (v : Nat) : (s.setPc v).xs = s.xs := rfl
@[simp] theorem State.setPc_flags (s : State) (v : Nat) : (s.setPc v).flags = s.flags := rfl
@[simp] theorem State.setPc_dmem (s : State) (v : Nat) : (s.setPc v).dmem = s.dmem := rfl
@[simp] theorem State.setPc_dinit (s : State) (v : Nat) : (s.setPc v).dinit = s.dinit := rfl
@[simp] theorem State.setPc_ls (s : State) (v : Nat) : (s.setPc v).ls = s.ls := rfl
@[simp] theorem State.setPc_cs (s : State) (v : Nat) : (s.setPc v).cs = s.cs := rfl
@[simp] theorem State.setPc_pc (s : State) (v : Nat) : (s.setPc v).pc = v := rfl
@[simp] theorem State.setPc_stopAddr (s : State) (v : Nat) : (s.setPc v).stopAddr = s.stopAddr := rfl
@[simp] theorem State.setPc_finish (s : State) (v : Nat) : (s.setPc v).finish = s.finish := rfl
@[simp] theorem State.setPc_bp (s : State) (v : Nat) : (s.setPc v).bp = s.bp := rfl
@[simp] theorem State.setPc_fb (s : State) (v : Nat) : (s.setPc v).fb = s.fb := rfl
@[simp] theorem State.setPc_hist (s : State) (v : Nat) : (s.setPc v).hist = s.hist := rfl
@[simp] theorem State.setPc_driver (s : State) (v : Nat) : (s.setPc v).driver = s.driver := rfl
@[simp] theorem State.setPc_response (s : State) (v : Nat) : (s.setPc v).response = s.response := rfl
@[simp] theorem State.setPc_run (s : State) (v : Nat) : (s.setPc v).run = s.run := rfl
@[simp] theorem State.setPc_setPc (s : State) (u v : Nat) : (s.setPc u).setPc v = s.setPc v := rfl
@[simp] theorem State.setPc_self (s : State) : s.setPc s.pc = s := rfl

/-! ### setFinish -/

@[simp] theorem State.setFinish_config (s : State) (v : Bool) : (s.setFinish v).config = s.config := rfl
@[simp] theorem State.setFinish_params (s : State) (v : Bool) : (s.setFinish v).params = s.params := rfl
@[simp] theorem State.setFinish_w (s : State) (v : Bool) : (s.setFinish v).w = s.w := rfl
@[simp] theorem State.setFinish_valid (s : State) (v : Bool) : (s.setFinish v).valid = s.valid := rfl
@[simp] theorem State.setFinish_sp (s : State) (v : Bool) : (s.setFinish v).sp = s.sp := rfl
@[simp] theorem State.setFinish_xs (s : State) (v : Bool) : (s.setFinish v).xs = s.xs := rfl
@[simp] theorem State.setFinish_flags (s : State) (v : Bool) : (s.setFinish v).flags = s.flags := rfl
@[simp] theorem State.setFinish_dmem (s : State) (v : Bool) : (s.setFinish v).dmem = s.dmem := rfl
@[simp] theorem State.setFinish_dinit (s : State) (v : Bool) : (s.setFinish v).dinit = s.dinit := rfl
@[simp] theorem State.setFinish_ls (s : State) (v : Bool) : (s.setFinish v).ls = s.ls := rfl
@[simp] theorem State.setFinish_cs (s : State) (v : Bool) : (s.setFinish v).cs = s.cs := rfl
@[simp] theorem State.setFinish_pc (s : State) (v : Bool) : (s.setFinish v).pc = s.pc := rfl
@[simp] theorem State.setFinish_stopAddr (s : State) (v : Bool) : (s.setFinish v).stopAddr = s.stopAddr := rfl
@[simp] theorem State.setFinish_finish (s : State) (v : Bool) : (s.setFinish v).finish = v := rfl
@[simp] theorem State.setFinish_bp (s : State) (v : Bool) : (s.setFinish v).bp = s.bp := rfl
@[simp] theorem State.setFinish_fb (s : State) (v : Bool) : (s.setFinish v).fb = s.fb := rfl
@[simp] theorem State.setFinish_hist (s : State) (v : Bool) : (s.setFinish v).hist = s.hist := rfl
@[simp] theorem State.setFinish_driver (s : State) (v : Bool) : (s.setFinish v).driver = s.driver := rfl
@[simp] theorem State.setFinish_response (s : State) (v : Bool) : (s.setFinish v).response = s.response := rfl
@[simp] theorem State.setFinish_run (s : State) (v : Bool) : (s.setFinish v).run = s.run := rfl
@[simp] theorem State.setFinish_setFinish (s : State) (u v : Bool) : (s.setFinish u).setFinish v = s.setFinish v := rfl
@[simp] theorem State.setFinish_self (s : State) : s.setFinish s.finish = s := rfl

/-! ### setBp -/

@[simp] theorem State.setBp_config (s : State) (v : List (Nat × BpEntry)) : (s.setBp v).config = s.config := rfl
@[simp] theorem State.setBp_params (s : State) (v : List (Nat × BpEntry)) : (s.setBp v).params = s.params := rfl
@[simp] theorem State.setBp_w (s : State) (v : List (Nat × BpEntry)) : (s.setBp v).w = s.w := rfl
@[simp] theorem State.setBp_valid (s : State) (v : List (Nat × BpEntry)) : (s.setBp v).valid = s.valid := rfl
@[simp] theorem State.setBp_sp (s : State) (v : List (Nat × BpEntry)) : (s.setBp v).sp = s.sp := rfl
@[simp] theorem State.setBp_xs (s : State) (v : List (Nat × BpEntry)) : (s.setBp v).xs = s.xs := rfl
@[simp] theorem State.setBp_flags (s : State) (v : List (Nat × BpEntry)) : (s.setBp v).flags = s.flags := rfl
@[simp] theorem State.setBp_dmem (s : State) (v : List (Nat × BpEntry)) : (s.setBp v).dmem = s.dmem := rfl
@[simp] theorem State.setBp_dinit (s : State) (v : List (Nat × BpEntry)) : (s.setBp v).dinit = s.dinit := rfl
@[simp] theorem State.setBp_ls (s : State) (v : List (Nat × BpEntry)) : (s.setBp v).ls = s.ls := rfl
@[simp] theorem State.setBp_cs (s : State) (v : List (Nat × BpEntry)) : (s.setBp v).cs = s.cs := rfl
@[simp] theorem State.setBp_pc (s : State) (v : List (Nat × BpEntry)) : (s.setBp v).pc = s.pc := rfl
@[simp] theorem State.setBp_stopAddr (s : State) (v : List (Nat × BpEntry)) : (s.setBp v).stopAddr = s.stopAddr := rfl
@[simp] theorem State.setBp_finish (s : State) (v : List (Nat × BpEntry)) : (s.setBp v).finish = s.finish := rfl
@[simp] theorem State.setBp_bp (s : State) (v : List (Nat × BpEntry)) : (s.setBp v).bp = v := rfl
@[simp] theorem State.setBp_fb (s : State) (v : List (Nat × BpEntry)) : (s.setBp v).fb = s.fb := rfl
@[simp] theorem State.setBp_hist (s : State) (v : List (Nat × BpEntry)) : (s.setBp v).hist = s.hist := rfl
@[simp] theorem State.setBp_driver (s : State) (v : List (Nat × BpEntry)) : (s.setBp v).driver = s.driver := rfl
@[simp] theorem State.setBp_response (s : State) (v : List (Nat × BpEntry)) : (s.setBp v).response = s.response := rfl
@[simp] theorem State.setBp_run (s : State) (v : List (Nat × BpEntry)) : (s.setBp v).run = s.run := rfl
@[simp] theorem State.setBp_setBp (s : State) (u v : List (Nat × BpEntry)) : (s.setBp u).setBp v = s.setBp v := rfl
@[simp] theorem State.setBp_self (s : State) : s.setBp s.bp = s := rfl

/-! ### setFb -/

@[simp] theorem State.setFb_config (s : State) (v : ForceBreak) : (s.setFb v).config = s.config := rfl
@[simp] theorem State.setFb_params (s : State) (v : ForceBreak) : (s.setFb v).params = s.params := rfl
@[simp] theorem State.setFb_w (s : State) (v : ForceBreak) : (s.setFb v).w = s.w := rfl
@[simp] theorem State.setFb_valid (s : State) (v : ForceBreak) : (s.setFb v).valid = s.valid := rfl
@[simp] theorem State.setFb_sp (s : State) (v : ForceBreak) : (s.setFb v).sp = s.sp := rfl
@[simp] theorem State.setFb_xs (s : State) (v : ForceBreak) : (s.setFb v).xs = s.xs := rfl
@[simp] theorem State.setFb_flags (s : State) (v : ForceBreak) : (s.setFb v).flags = s.flags := rfl
@[simp] theorem State.setFb_dmem (s : State) (v : ForceBreak) : (s.setFb v).dmem = s.dmem := rfl
@[simp] theorem State.setFb_dinit (s : State) (v : ForceBreak) : (s.setFb v).dinit = s.dinit := rfl
@[simp] theorem State.setFb_ls (s : State) (v : ForceBreak) : (s.setFb v).ls = s.ls := rfl
@[simp] theorem State.setFb_cs (s : State) (v : ForceBreak) : (s.setFb v).cs = s.cs := rfl
@[simp] theorem State.setFb_pc (s : State) (v : ForceBreak) : (s.setFb v).pc = s.pc := rfl
@[simp] theorem State.setFb_stopAddr (s : State) (v : ForceBreak) : (s.setFb v).stopAddr = s.stopAddr := rfl
@[simp] theorem State.setFb_finish (s : State) (v : ForceBreak) : (s.setFb v).finish = s.finish := rfl
@[simp] theorem State.setFb_bp (s : State) (v : ForceBreak) : (s.setFb v).bp = s.bp := rfl
@[simp] theorem State.setFb_fb (s : State) (v : ForceBreak) : (s.setFb v).fb = v := rfl
@[simp] theorem State.setFb_hist (s : State) (v : ForceBreak) : (s.setFb v).hist = s.hist := rfl
@[simp] theorem State.setFb_driver (s : State) (v : ForceBreak) : (s.setFb v).driver = s.driver := rfl
@[simp] theorem State.setFb_response (s : State) (v : ForceBreak) : (s.setFb v).response = s.response := rfl
@[simp] theorem State.setFb_run (s : State) (v : ForceBreak) : (s.setFb v).run = s.run := rfl
@[simp] theorem State.setFb_setFb (s : State) (u v : ForceBreak) : (s.setFb u).setFb v = s.setFb v := rfl
@[simp] theorem State.setFb_self (s : State) : s.setFb s.fb = s := rfl

/-! ### setHist -/

@[simp] theorem State.setHist_config (s : State) (v : List (String × Nat)) : (s.setHist v).config = s.config := rfl
@[simp] theorem State.setHist_params (s : State) (v : List (String × Nat)) : (s.setHist v).params = s.params := rfl
@[simp] theorem State.setHist_w (s : State) (v : List (String × Nat)) : (s.setHist v).w = s.w := rfl
@[simp] theorem State.setHist_valid (s : State) (v : List (String × Nat)) : (s.setHist v).valid = s.valid := rfl
@[simp] theorem State.setHist_sp (s : State) (v : List (String × Nat)) : (s.setHist v).sp = s.sp := rfl
@[simp] theorem State.setHist_xs (s : State) (v : List (String × Nat)) : (s.setHist v).xs = s.xs := rfl
@[simp] theorem State.setHist_flags (s : State) (v : List (String × Nat)) : (s.setHist v).flags = s.flags := rfl
@[simp] theorem State.setHist_dmem (s : State) (v : List (String × Nat)) : (s.setHist v).dmem = s.dmem := rfl
@[simp] theorem State.setHist_dinit (s : State) (v : List (String × Nat)) : (s.setHist v).dinit = s.dinit := rfl
@[simp] theorem State.setHist_ls (s : State) (v : List (String × Nat)) : (s.setHist v).ls = s.ls := rfl
@[simp] theorem State.setHist_cs (s : State) (v : List (String × Nat)) : (s.setHist v).cs = s.cs := rfl
@[simp] theorem State.setHist_pc (s : State) (v : List (String × Nat)) : (s.setHist v).pc = s.pc := rfl
@[simp] theorem State.setHist_stopAddr (s : State) (v : List (String × Nat)) : (s.setHist v).stopAddr = s.stopAddr := rfl
@[simp] theorem State.setHist_finish (s : State) (v : List (String × Nat)) : (s.setHist v).finish = s.finish := rfl
@[simp] theorem State.setHist_bp (s : State) (v : List (String × Nat)) : (s.setHist v).bp = s.bp := rfl
@[simp] theorem State.setHist_fb (s : State) (v : List (String × Nat)) : (s.setHist v).fb = s.fb := rfl
@[simp] theorem State.setHist_hist (s : State) (v : List (String × Nat)) : (s.setHist v).hist = v := rfl
@[simp] theorem State.setHist_driver (s : State) (v : List (String × Nat)) : (s.setHist v).driver = s.driver := rfl
@[simp] theorem State.setHist_response (s : State) (v : List (String × Nat)) : (s.setHist v).response = s.response := rfl
@[simp] theorem State.setHist_run (s : State) (v : List (String × Nat)) : (s.setHist v).run = s.run := rfl
@[simp] theorem State.setHist_setHist (s : State) (u v : List (String × Nat)) : (s.setHist u).setHist v = s.setHist v := rfl
@[simp] theorem State.setHist_self (s : State) : s.setHist s.hist = s := rfl

/-! ### setDriver -/

@[simp] theorem State.setDriver_config (s : State) (v : List DriverCall) : (s.setDriver v).config = s.config := rfl
@[simp] theorem State.setDriver_params (s : State) (v : List DriverCall) : (s.setDriver v).params = s.params := rfl
@[simp] theorem State.setDriver_w (s : State) (v : List DriverCall) : (s.setDriver v).w = s.w := rfl
@[simp] theorem State.setDriver_valid (s : State) (v : List DriverCall) : (s.setDriver v).valid = s.valid := rfl
@[simp] theorem State.setDriver_sp (s : State) (v : List DriverCall) : (s.setDriver v).sp = s.sp := rfl
@[simp] theorem State.setDriver_xs (s : State) (v : List DriverCall) : (s.setDriver v).xs = s.xs := rfl
@[simp] theorem State.setDriver_flags (s : State) (v : List DriverCall) : (s.setDriver v).flags = s.flags := rfl
@[simp] theorem State.setDriver_dmem (s : State) (v : List DriverCall) : (s.setDriver v).dmem = s.dmem := rfl
@[simp] theorem State.setDriver_dinit (s : State) (v : List DriverCall) : (s.setDriver v).dinit = s.dinit := rfl
@[simp] theorem State.setDriver_ls (s : State) (v : List DriverCall) : (s.setDriver v).ls = s.ls := rfl
@[simp] theorem State.setDriver_cs (s : State) (v : List DriverCall) : (s.setDriver v).cs = s.cs := rfl
@[simp] theorem State.setDriver_pc (s : State) (v : List DriverCall) : (s.setDriver v).pc = s.pc := rfl
@[simp] theorem State.setDriver_stopAddr (s : State) (v : List DriverCall) : (s.setDriver v).stopAddr = s.stopAddr := rfl
@[simp] theorem State.setDriver_finish (s : State) (v : List DriverCall) : (s.setDriver v).finish = s.finish := rfl
@[simp] theorem State.setDriver_bp (s : State) (v : List DriverCall) : (s.setDriver v).bp = s.bp := rfl
@[simp] theorem State.setDriver_fb (s : State) (v : List DriverCall) : (s.setDriver v).fb = s.fb := rfl
@[simp] theorem State.setDriver_hist (s : State) (v : List DriverCall) : (s.setDriver v).hist = s.hist := rfl
@[simp] theorem State.setDriver_driver (s : State) (v : List DriverCall) : (s.setDriver v).driver = v := rfl
@[simp] theorem State.setDriver_response (s : State) (v : List DriverCall) : (s.setDriver v).response = s.response := rfl
@[simp] theorem State.setDriver_run (s : State) (v : List DriverCall) : (s.setDriver v).run = s.run := rfl
@[simp] theorem State.setDriver_setDriver (s : State) (u v : List DriverCall) : (s.setDriver u).setDriver v = s.setDriver v := rfl
@[simp] theorem State.setDriver_self (s : State) : s.setDriver s.driver = s := rfl

/-! ### setResponse -/

@[simp] theorem State.setResponse_config (s : State) (v : Response) : (s.setResponse v).config = s.config := rfl
@[simp] theorem State.setResponse_params (s : State) (v : Response) : (s.setResponse v).params = s.params := rfl
@[simp] theorem State.setResponse_w (s : State) (v : Response) : (s.setResponse v).w = s.w := rfl
@[simp] theorem State.setResponse_valid (s : State) (v : Response) : (s.setResponse v).valid = s.valid := rfl
@[simp] theorem State.setResponse_sp (s : State) (v : Response) : (s.setResponse v).sp = s.sp := rfl
@[simp] theorem State.setResponse_xs (s : State) (v : Response) : (s.setResponse v).xs = s.xs := rfl
@[simp] theorem State.setResponse_flags (s : State) (v : Response) : (s.setResponse v).flags = s.flags := rfl
@[simp] theorem State.setResponse_dmem (s : State) (v : Response) : (s.setResponse v).dmem = s.dmem := rfl
@[simp] theorem State.setResponse_dinit (s : State) (v : Response) : (s.setResponse v).dinit = s.dinit := rfl
@[simp] theorem State.setResponse_ls (s : State) (v : Response) : (s.setResponse v).ls = s.ls := rfl
@[simp] theorem State.setResponse_cs (s : State) (v : Response) : (s.setResponse v).cs = s.cs := rfl
@[simp] theorem State.setResponse_pc (s : State) (v : Response) : (s.setResponse v).pc = s.pc := rfl
@[simp] theorem State.setResponse_stopAddr (s : State) (v : Response) : (s.setResponse v).stopAddr = s.stopAddr := rfl
@[simp] theorem State.setResponse_finish (s : State) (v : Response) : (s.setResponse v).finish = s.finish := rfl
@[simp] theorem State.setResponse_bp (s : State) (v : Response) : (s.setResponse v).bp = s.bp := rfl
@[simp] theorem State.setResponse_fb (s : State) (v : Response) : (s.setResponse v).fb = s.fb := rfl
@[simp] theorem State.setResponse_hist (s : State) (v : Response) : (s.setResponse v).hist = s.hist := rfl
@[simp] theorem State.setResponse_driver (s : State) (v : Response) : (s.setResponse v).driver = s.driver := rfl
@[simp] theorem State.setResponse_response (s : State) (v : Response) : (s.setResponse v).response = v := rfl
@[simp] theorem State.setResponse_run (s : State) (v : Response) : (s.setResponse v).run = s.run := rfl
@[simp] theorem State.setResponse_setResponse (s : State) (u v : Response) : (s.setResponse u).setResponse v = s.setResponse v := rfl
@[simp] theorem State.setResponse_self (s : State) : s.setResponse s.response = s := rfl

/-! ### setRun -/

@[simp] theorem State.setRun_config (s : State) (v : RunRecord) : (s.setRun v).config = s.config := rfl
@[simp] theorem State.setRun_params (s : State) (v : RunRecord) : (s.setRun v).params = s.params := rfl
@[simp] theorem State.setRun_w (s : State) (v : RunRecord) : (s.setRun v).w = s.w := rfl
@[simp] theorem State.setRun_valid (s : State) (v : RunRecord) : (s.setRun v).valid = s.valid := rfl
@[simp] theorem State.setRun_sp (s : State) (v : RunRecord) : (s.setRun v).sp = s.sp := rfl
@[simp] theorem State.setRun_xs (s : State) (v : RunRecord) : (s.setRun v).xs = s.xs := rfl
@[simp] theorem State.setRun_flags (s : State) (v : RunRecord) : (s.setRun v).flags = s.flags := rfl
@[simp] theorem State.setRun_dmem (s : State) (v : RunRecord) : (s.setRun v).dmem = s.dmem := rfl
@[simp] theorem State.setRun_dinit (s : State) (v : RunRecord) : (s.setRun v).dinit = s.dinit := rfl
@[simp] theorem State.setRun_ls (s : State) (v : RunRecord) : (s.setRun v).ls = s.ls := rfl
@[simp] theorem State.setRun_cs (s : State) (v : RunRecord) : (s.setRun v).cs = s.cs := rfl
@[simp] theorem State.setRun_pc (s : State) (v : RunRecord) : (s.setRun v).pc = s.pc := rfl
@[simp] theorem State.setRun_stopAddr (s : State) (v : RunRecord) : (s.setRun v).stopAddr = s.stopAddr := rfl
@[simp] theorem State.setRun_finish (s : State) (v : RunRecord) : (s.setRun v).finish = s.finish := rfl
@[simp] theorem State.setRun_bp (s : State) (v : RunRecord) : (s.setRun v).bp = s.bp := rfl
@[simp] theorem State.setRun_fb (s : State) (v : RunRecord) : (s.setRun v).fb = s.fb := rfl
@[simp] theorem State.setRun_hist (s : State) (v : RunRecord) : (s.setRun v).hist = s.hist := rfl
@[simp] theorem State.setRun_driver (s : State) (v : RunRecord) : (s.setRun v).driver = s.driver := rfl
@[simp] theorem State.setRun_response (s : State) (v : RunRecord) : (s.setRun v).response = s.response := rfl
@[simp] theorem State.setRun_run (s : State) (v : RunRecord) : (s.setRun v).run = v := rfl
@[simp] theorem State.setRun_setRun (s : State) (u v : RunRecord) : (s.setRun u).setRun v = s.setRun v := rfl
@[simp] theorem State.setRun_self (s : State) : s.setRun s.run = s := rfl

/-- The memory of the reset state is in canonical form. -/
theorem reset_memory_wf : State.reset.dmem.wf := by decide

end Sys2Proof.Machine
end

