-- ==== Sys2Proof/Laws/Operands.lean ====
section
/-! SUPPORT. The bits of the sub-views of a wide word and of the validity masks, and what reading and storing a
register target do. -/

namespace Sys2Proof.Machine

/-- A bit of a part is the word's bit that far above the part's lowest. -/
theorem getLsbD_part (w : Nat) (v : Wide) (lo j : Nat) :
    (part w v lo).getLsbD j = (decide (j < w) && v.getLsbD (lo + j)) := by
  simp [part, BitVec.getLsbD_extractLsb']

/-- Replacing a part replaces its bits and keeps every other. -/
theorem getLsbD_withPart {w : Nat} (v : Wide) (lo : Nat) (x : BitVec w) (k : Nat) (hk : k < 256) :
    (withPart v lo x).getLsbD k = if lo ≤ k ∧ k < lo + w then x.getLsbD (k - lo) else v.getLsbD k := by
  unfold withPart
  simp only [BitVec.getLsbD_or, BitVec.getLsbD_and, BitVec.getLsbD_not, BitVec.getLsbD_shiftLeft,
    BitVec.getLsbD_setWidth, BitVec.getLsbD_allOnes, hk, decide_true, Bool.true_and]
  by_cases h1 : k < lo
  · simp [h1, show ¬ lo ≤ k by omega]
  · have h2 : k - lo < 256 := by omega
    by_cases h3 : k < lo + w
    · simp [h1, h2, h3, show lo ≤ k by omega, show k - lo < w by omega]
    · simp [h1, h3, show ¬ k - lo < w by omega, BitVec.getLsbD_of_ge x (k - lo) (by omega)]

/-- A replaced part is read back. -/
theorem part_withPart {w : Nat} (v : Wide) (lo : Nat) (x : BitVec w) (h : lo + w ≤ 256) :
    part w (withPart v lo x) lo = x := by
  apply BitVec.eq_of_getLsbD_eq
  intro j hj
  rw [getLsbD_part, getLsbD_withPart _ _ _ _ (by omega)]
  simp [hj]

/-- A part that does not overlap the replaced one is unchanged. -/
theorem part_withPart_of_disjoint {w u : Nat} (v : Wide) (lo lo' : Nat) (x : BitVec w) 
    (h' : lo' + u ≤ 256) (hd : lo' + u ≤ lo ∨ lo + w ≤ lo') : part u (withPart v lo x) lo' = part u v lo' := by
  apply BitVec.eq_of_getLsbD_eq
  intro j hj
  rw [getLsbD_part, getLsbD_part, getLsbD_withPart _ _ _ _ (by omega)]
  rw [if_neg (by omega)]

/-- The mask of `count` slots from `lo` on holds exactly those. -/
theorem getLsbD_slotMask (lo count k : Nat) (h : lo + count ≤ 16) :
    (slotMask lo count).getLsbD k = decide (lo ≤ k ∧ k < lo + count) := by
  unfold slotMask
  rw [BitVec.getLsbD_ofNat, Nat.testBit_mul_two_pow, Nat.testBit_two_pow_sub_one]
  by_cases h1 : lo ≤ k
  · by_cases h2 : k < lo + count
    · simp [h1, h2, show k < 16 by omega, show k - lo < count by omega]
    · simp [h2, show ¬ k - lo < count by omega]
  · simp [h1]

/-- A stored general register holds the value; every other register target holds what it held. -/
theorem State.cur_store (s : State) (t u : Target) (v : Wide) (lo count : Nat) (ht : t ≠ .special .rnd) :
    (s.store t v lo count).cur u = if u = t then v else s.cur u := by
  cases t with
  | general n =>
    cases u with
    | general m =>
      simp only [State.store, State.cur, State.setValid_w, State.setW_w, Target.general.injEq]
      rw [Vector.getElem_set]
      by_cases e : m = n
      · subst e; simp
      · have : n.val ≠ m.val := fun h => e (Fin.ext h.symm)
        simp [e, this]
    | special r => simp [State.store, State.cur]
  | special q =>
    cases u with
    | general m => simp [State.store, State.cur]
    | special r =>
      simp only [State.store, State.cur, State.setSp_sp, Target.special.injEq]
      cases q <;> first | exact absurd rfl ht | (cases r <;> simp [Special.set, Special.get])

/-- A store touches the wide registers, their validity bits and the special registers, and nothing else. -/
theorem State.store_frame (s : State) (t : Target) (v : Wide) (lo count : Nat) :
    s.store t v lo count =
      ((s.setW (s.store t v lo count).w).setValid (s.store t v lo count).valid).setSp (s.store t v lo count).sp := by
  cases t <;> rfl

/-- A store never changes `rnd`. -/
theorem State.store_rnd (s : State) (t : Target) (v : Wide) (lo count : Nat) :
    (s.store t v lo count).sp.rnd = s.sp.rnd := by
  cases t with
  | general n => rfl
  | special r => cases r <;> rfl

/-- A store marks the slots of a general register that it names and leaves every other validity bit as it was. -/
theorem State.valid_store_general (s : State) (n : Fin 32) (v : Wide) (lo count : Nat) (h : lo + count ≤ 16)
    (m : Fin 32) (k : Nat) :
    ((s.store (.general n) v lo count).valid[m.val]).getLsbD k =
      ((s.valid[m.val]).getLsbD k || (decide (m = n) && decide (lo ≤ k ∧ k < lo + count))) := by
  simp only [State.store, State.setValid_valid, Vector.getElem_set]
  by_cases e : n.val = m.val
  · have : m = n := Fin.ext e.symm
    subst this
    simp [getLsbD_slotMask _ _ _ h]
  · have : m ≠ n := fun h => e (by rw [h])
    simp [e, this]

/-- A store to a special register leaves the validity bits alone. -/
theorem State.valid_store_special (s : State) (r : SpecialReg) (v : Wide) (lo count : Nat) :
    (s.store (.special r) v lo count).valid = s.valid := rfl

/-- A general register id in range names its register. -/
theorem resolve_general (n : Fin 32) : resolve (.general n.val) = .ok (.general n) := by simp [resolve]

/-- The diagnostic of a read of a general register, from the list of the slots it misses. -/
theorem State.regDiag_general (s : State) (n : Fin 32) (lo count : Nat) (m : List Nat)
    (h : (List.range' lo count).filter (fun k => !(s.valid[n.val]).getLsbD k) = m) :
    s.regDiag (.general n) lo count = if m = [] then none else some (.uninitReg n.val m) := by
  simp only [State.regDiag]
  rw [h]
  cases m <;> rfl

/-- The flags CSR. -/
theorem csrTarget_flags (c : Config) : csrTarget c c.csrFlags = some .flags := by simp [csrTarget]

/-- The modulus-limb CSRs, when the numbers are distinct. -/
theorem csrTarget_modLimb (c : Config) (hc : c.wf = true) (k : Nat) (h : k < 8) :
    csrTarget c (c.csrModBase + k) = some (.modLimb k) := by
  simp [Config.wf] at hc
  rw [csrTarget, if_neg (by omega), if_pos (by omega), Nat.add_sub_cancel_left]

/-- The random-limb CSR, when the numbers are distinct. -/
theorem csrTarget_rnd (c : Config) (hc : c.wf = true) : csrTarget c c.csrRnd = some .rnd := by
  simp [Config.wf] at hc
  rw [csrTarget, if_neg (by omega), if_neg (by omega), if_pos rfl]

/-- A number that is none of the ten. -/
theorem csrTarget_none (c : Config) (n : Nat) (h1 : n ≠ c.csrFlags) (h2 : n ≠ c.csrRnd)
    (h3 : ∀ k < 8, n ≠ c.csrModBase + k) : csrTarget c n = none := by
  rw [csrTarget, if_neg h1, if_neg fun h => h3 (n - c.csrModBase) (by omega) (by omega), if_neg h2]

/-- The modulus WSR. -/
theorem wsrTarget_mod (c : Config) : wsrTarget c c.wsrMod = some .mod := by simp [wsrTarget]

/-- The random WSR, when the indices differ. -/
theorem wsrTarget_rnd (c : Config) (hc : c.wf = true) : wsrTarget c c.wsrRnd = some .rnd := by
  simp [Config.wf] at hc
  rw [wsrTarget, if_neg (Ne.symm hc.2), if_pos rfl]

end Sys2Proof.Machine
end

