-- ==== Sys2Proof/Laws/Ops.lean ====
section
/-! SUPPORT. What each shared operation can answer, said once: `Ensures P a` says that P holds of the next state when
the answer a is one. -/

namespace Sys2Proof.Machine

/-- P holds of the next state, when the answer is one. -/
def Ensures (P : State → Prop) : Answer → Prop
  | .next t => P t
  | .fault _ => True
  | .refused _ => True

variable {P : State → Prop}

theorem ensures_iff (a : Answer) : Ensures P a ↔ ∀ t, a = .next t → P t := by
  cases a with
  | next s => exact ⟨fun h t e => by cases e; exact h, fun h => h _ rfl⟩
  | fault f => exact ⟨fun _ _ e => (nomatch e), fun _ => trivial⟩
  | refused r => exact ⟨fun _ _ e => (nomatch e), fun _ => trivial⟩

theorem answerWith_eq (ds : List Diag) (r : Result) (s : State) :
    answerWith ds r s = .next (s.setResponse ⟨r, none, ds⟩) := rfl

theorem answer_eq (r : Result) (s : State) : answer r s = .next (s.setResponse ⟨r, none, []⟩) := rfl

theorem raiseAfter_eq (ds : List Diag) (e : Err) (s : State) :
    raiseAfter ds e s = .next (s.setResponse ⟨.none, some e, ds⟩) := rfl

theorem raise_eq (e : Err) (s : State) : raise e s = .next (s.setResponse ⟨.none, some e, []⟩) := rfl

/-- A report answers the value (with the diagnostic, if there is one) or, under strict, raises; it touches nothing
but the response. -/
theorem report_next (d : Option Diag) (r : Result) (s : State) :
    ∃ p, report d r s = .next (s.setResponse p) := by
  unfold report
  split
  · exact ⟨_, rfl⟩
  · split <;> exact ⟨_, rfl⟩

theorem report_none (r : Result) (s : State) : report none r s = .next (s.setResponse ⟨r, none, []⟩) := rfl

theorem report_some_warn (d : Diag) (r : Result) (s : State) (h : s.config.uninitRead = .warn) :
    report (some d) r s = .next (s.setResponse ⟨r, none, [d]⟩) := by
  simp [report, h, answerWith]

theorem report_some_strict (d : Diag) (r : Result) (s : State) (h : s.config.uninitRead = .strict) :
    report (some d) r s = .next (s.setResponse ⟨.none, some (.uninitRead d), []⟩) := by
  simp [report, h, raise, raiseAfter]

theorem requireIndex_of_lt {bound i : Nat} (s : State) (go : Answer) (h : i < bound) :
    requireIndex bound i s go = go := if_pos h

theorem requireIndex_of_ge {bound i : Nat} (s : State) (go : Answer) (h : bound ≤ i) :
    requireIndex bound i s go = .next (s.setResponse ⟨.none, some (.indexError i), []⟩) :=
  if_neg (Nat.not_lt.mpr h)

theorem requireRange_of_lt {limit v : Nat} (s : State) (go : Answer) (h : v < limit) :
    requireRange limit v s go = go := if_pos h

theorem requireRange_of_ge {limit v : Nat} (s : State) (go : Answer) (h : limit ≤ v) :
    requireRange limit v s go = .next (s.setResponse ⟨.none, some (.rangeError v), []⟩) :=
  if_neg (Nat.not_lt.mpr h)

theorem rndGuard_false (s : State) (go : Answer) : rndGuard false s go = go := rfl

theorem rndGuard_fault (b : Bool) (s : State) (go : Answer) (hb : b = true) (h : s.config.rndWrite = .fault) :
    rndGuard b s go = .next (s.setResponse ⟨.none, some (.invalidOperand .rnd), []⟩) := by
  simp [rndGuard, hb, h, raise, raiseAfter]

theorem rndGuard_ignore (b : Bool) (s : State) (go : Answer) (h : s.config.rndWrite = .ignore) :
    rndGuard b s go = go := by
  simp [rndGuard, h]

theorem withWide_of_lt {a : Nat} (h : a < 2 ^ 256) (s : State) (go : Wide → Answer) :
    withWide a s go = go (BitVec.ofNat 256 a) := requireRange_of_lt s _ h

theorem withWide_of_ge {a : Nat} (h : 2 ^ 256 ≤ a) (s : State) (go : Wide → Answer) :
    withWide a s go = .next (s.setResponse ⟨.none, some (.rangeError a), []⟩) := requireRange_of_ge s _ h

/-! ### `Ensures` through each shared operation -/

theorem ensures_answerWith {ds : List Diag} {r : Result} {s : State} (h : ∀ p, P (s.setResponse p)) :
    Ensures P (answerWith ds r s) := h _

theorem ensures_answer {r : Result} {s : State} (h : ∀ p, P (s.setResponse p)) : Ensures P (answer r s) := h _

theorem ensures_raiseAfter {ds : List Diag} {e : Err} {s : State} (h : ∀ p, P (s.setResponse p)) :
    Ensures P (raiseAfter ds e s) := h _

theorem ensures_raise {e : Err} {s : State} (h : ∀ p, P (s.setResponse p)) : Ensures P (raise e s) := h _

theorem ensures_report {d : Option Diag} {r : Result} {s : State} (h : ∀ p, P (s.setResponse p)) :
    Ensures P (report d r s) := by
  obtain ⟨p, hp⟩ := report_next d r s
  rw [hp]
  exact h p

theorem ensures_requireIndex {bound i : Nat} {s : State} {go : Answer} (h : ∀ p, P (s.setResponse p))
    (hg : i < bound → Ensures P go) : Ensures P (requireIndex bound i s go) := by
  unfold requireIndex
  split
  · next hi => exact hg hi
  · exact ensures_raise h

theorem ensures_requireRange {limit v : Nat} {s : State} {go : Answer} (h : ∀ p, P (s.setResponse p))
    (hg : v < limit → Ensures P go) : Ensures P (requireRange limit v s go) := by
  unfold requireRange
  split
  · next hv => exact hg hv
  · exact ensures_raise h

theorem ensures_rndGuard {b : Bool} {s : State} {go : Answer} (h : ∀ p, P (s.setResponse p))
    (hg : Ensures P go) : Ensures P (rndGuard b s go) := by
  unfold rndGuard
  split
  · exact ensures_raise h
  · exact hg

theorem ensures_settle {s : State} {x : Except Err (Result × State)} (h : ∀ p, P (s.setResponse p))
    (hg : ∀ r t, x = .ok (r, t) → ∀ p, P (t.setResponse p)) : Ensures P (settle s x) := by
  cases x with
  | ok q => exact ensures_answer (hg q.1 q.2 rfl)
  | error e => exact ensures_raise h

theorem ensures_serve {run : Instr → State → Answer} {r : Request} {s : State} (h : ∀ p, P (s.setResponse p))
    (hg : ∀ i, decode r = .ok i → Ensures P (run i s)) : Ensures P (serve run r s) := by
  unfold serve
  split
  · next i hi => exact hg i hi
  · exact ensures_raise h
  · trivial

/-- An operation other than STEP, called by the driver, is the operation (47_step_engine.md R260). -/
theorem callOp_of_ne_step {run : Instr → State → Answer} {i : Instr} (s : State) (h : i ≠ .step) :
    callOp run i s = run i s := by
  unfold callOp
  split
  · exact absurd rfl h
  · rfl

/-- A STEP called by the driver writes its outcome in the driver's record. -/
theorem callOp_step_next {run : Instr → State → Answer} {s t : State} (h : run .step s = .next t) :
    callOp run .step s = .next (t.setRun t.runAfter) := by
  simp only [callOp, h]

theorem ensures_callOp {run : Instr → State → Answer} {i : Instr} {s : State} (h : Ensures P (run i s))
    (hr : ∀ t r, P t → P (t.setRun r)) : Ensures P (callOp run i s) := by
  unfold callOp
  split
  · next hn =>
    rw [hn] at h
    exact hr _ _ h
  · exact h

/-- P holds of the state in which the run of an instruction object ends, when it returns or an error ends it. -/
def RunEnd.Ensures (P : State → Prop) : RunEnd → Prop
  | .returned _ _ _ t => P t
  | .raised _ _ t => P t
  | .stopped a => Machine.Ensures P a

/-- A program keeps what every operation it may issue keeps, and what the programs of fetched objects keep (an
induction over the program). -/
theorem runWith_keeps {nested : Prog → List Diag → State → RunEnd} (hg : ∀ i s, P s → Ensures P (issue i s))
    (hr : ∀ s p, P s → P (s.setResponse p)) (hn : ∀ p ds s, P s → (nested p ds s).Ensures P) :
    ∀ (prog : Prog) (env : List Value) (ds : List Diag) (s : State), P s →
      (runWith nested prog env ds s).Ensures P := by
  intro prog
  induction prog with
  | done trace next =>
    intro env ds s hs
    simp only [runWith]
    cases evalDone env trace next with
    | none => trivial
    | some out => exact hs
  | call op args rest ih =>
    intro env ds s hs
    simp only [runWith]
    cases evalArgs env args with
    | none => trivial
    | some vs =>
      have hv : Ensures P (serve issue ⟨op, vs⟩ s) :=
        ensures_serve (fun p => hr s p hs) fun i _ => hg i s hs
      simp only
      cases hk : serve issue ⟨op, vs⟩ s with
      | next t =>
        rw [hk] at hv
        simp only
        cases t.response.err with
        | some e => exact hv
        | none => exact ih _ _ t hv
      | fault f => trivial
      | refused r => trivial
  | branch c t e iht ihe =>
    intro env ds s hs
    simp only [runWith]
    cases evalExpr env c with
    | none => trivial
    | some v =>
      cases v with
      | zero => exact ihe _ _ s hs
      | succ n => exact iht _ _ s hs
  | run k rest ih =>
    intro env ds s hs
    simp only [runWith]
    cases objAt env k with
    | none => trivial
    | some o =>
      have ho := hn o.exec ds s hs
      simp only
      cases hk : nested o.exec ds s with
      | returned trace req ds' t =>
        rw [hk] at ho
        exact ih _ _ t ho
      | raised e ds' t =>
        rw [hk] at ho
        exact ho
      | stopped a =>
        rw [hk] at ho
        exact ho

/-- The run of a program keeps what every operation it may issue keeps, whatever its depth. -/
theorem runProg_keeps (hg : ∀ i s, P s → Ensures P (issue i s)) (hr : ∀ s p, P s → P (s.setResponse p)) :
    ∀ (depth : Nat) (prog : Prog) (env : List Value) (ds : List Diag) (s : State), P s →
      (runProg depth prog env ds s).Ensures P
  | 0, prog =>
    runWith_keeps (nested := fun _ _ _ => .stopped (.refused .notFinite)) hg hr (fun _ _ _ _ => trivial) prog
  | depth + 1, prog =>
    runWith_keeps hg hr (fun p ds s hs => runProg_keeps hg hr depth p [] ds s hs) prog

end Sys2Proof.Machine
end

