-- ==== Sys2Proof/Laws/Issue.lean ====
section
/-! SUPPORT. What an operation issued by an instruction object leaves alone, said once (`Kept`, `issue_kept`), and
therefore what the whole run of an instruction object leaves alone (`runIns_kept`). -/

namespace Sys2Proof.Machine

/-- What no operation of families 0 to 5 and no FINISH changes, and the forms each of them keeps. -/
structure Kept (s t : State) : Prop where
  config : t.config = s.config
  params : t.params = s.params
  pc : t.pc = s.pc
  stopAddr : t.stopAddr = s.stopAddr
  driver : t.driver = s.driver
  run : t.run = s.run
  fb : t.fb = s.fb
  bp : t.bp = s.bp
  hist : t.hist = s.hist
  rnd : t.sp.rnd = s.sp.rnd
  loopDepth : s.ls.length ≤ stackDepth → t.ls.length ≤ stackDepth
  callDepth : s.cs.length ≤ stackDepth → t.cs.length ≤ stackDepth
  memory : (s.dmem.wf ∧ ∀ c ∈ s.dmem, c.1 < dmemBytes) → (t.dmem.wf ∧ ∀ c ∈ t.dmem, c.1 < dmemBytes)

theorem Kept.refl (s : State) : Kept s s := ⟨rfl, rfl, rfl, rfl, rfl, rfl, rfl, rfl, rfl, rfl, id, id, id⟩

theorem Kept.trans {s t u : State} (h : Kept s t) (k : Kept t u) : Kept s u :=
  ⟨k.config.trans h.config, k.params.trans h.params, k.pc.trans h.pc, k.stopAddr.trans h.stopAddr,
    k.driver.trans h.driver, k.run.trans h.run, k.fb.trans h.fb, k.bp.trans h.bp, k.hist.trans h.hist, k.rnd.trans h.rnd,
    k.loopDepth ∘ h.loopDepth, k.callDepth ∘ h.callDepth, k.memory ∘ h.memory⟩

theorem Kept.setResponse {s t : State} (h : Kept s t) (p : Response) : Kept s (t.setResponse p) :=
  ⟨h.config, h.params, h.pc, h.stopAddr, h.driver, h.run, h.fb, h.bp, h.hist, h.rnd, h.loopDepth, h.callDepth, h.memory⟩

theorem kept_setFlags (s : State) (f : Flags) : Kept s (s.setFlags f) :=
  ⟨rfl, rfl, rfl, rfl, rfl, rfl, rfl, rfl, rfl, rfl, id, id, id⟩

theorem kept_setXs (s : State) (x : Vector Limb 6) : Kept s (s.setXs x) :=
  ⟨rfl, rfl, rfl, rfl, rfl, rfl, rfl, rfl, rfl, rfl, id, id, id⟩

theorem kept_setFinish (s : State) (b : Bool) : Kept s (s.setFinish b) :=
  ⟨rfl, rfl, rfl, rfl, rfl, rfl, rfl, rfl, rfl, rfl, id, id, id⟩

theorem kept_setSp (s : State) (sp : Special) (h : sp.rnd = s.sp.rnd) : Kept s (s.setSp sp) :=
  ⟨rfl, rfl, rfl, rfl, rfl, rfl, rfl, rfl, rfl, h, id, id, id⟩

theorem kept_setCs (s : State) (l : List Limb) (h : s.cs.length ≤ stackDepth → l.length ≤ stackDepth) :
    Kept s (s.setCs l) :=
  ⟨rfl, rfl, rfl, rfl, rfl, rfl, rfl, rfl, rfl, rfl, id, h, id⟩

theorem kept_setLs (s : State) (l : List LoopEntry) (h : s.ls.length ≤ stackDepth → l.length ≤ stackDepth) :
    Kept s (s.setLs l) :=
  ⟨rfl, rfl, rfl, rfl, rfl, rfl, rfl, rfl, rfl, rfl, h, id, id⟩

theorem kept_store (s : State) (t : Target) (v : Wide) (lo count : Nat) : Kept s (s.store t v lo count) := by
  cases t with
  | general n => exact ⟨rfl, rfl, rfl, rfl, rfl, rfl, rfl, rfl, rfl, rfl, id, id, id⟩
  | special r => exact ⟨rfl, rfl, rfl, rfl, rfl, rfl, rfl, rfl, rfl, State.store_rnd s (.special r) v lo count, id, id, id⟩

theorem kept_writeCell (s : State) (a v : Nat) (h : a < dmemDepth) : Kept s (s.writeCell a v) := by
  refine ⟨rfl, rfl, rfl, rfl, rfl, rfl, rfl, rfl, rfl, rfl, id, id, fun m => ⟨State.writeCell_memory_wf _ _ _ m.1, ?_⟩⟩
  intro c hc
  rcases Memory.mem_writeBytes hc with k | k
  · unfold dmemDepth at h; unfold dmemBytes; omega
  · exact m.2 c k

theorem kept_writeMemLimb (s : State) (b x : Nat) (h : b < dmemBytes) : Kept s (s.writeMemLimb b x) := by
  refine ⟨rfl, rfl, rfl, rfl, rfl, rfl, rfl, rfl, rfl, rfl, id, id, fun m => ⟨State.writeMemLimb_memory_wf _ _ _ m.1, ?_⟩⟩
  intro c hc
  rcases Memory.mem_writeBytes hc with k | k
  · unfold limbBase cellOf limbOf at k; unfold dmemBytes at *; omega
  · exact m.2 c k

theorem kept_popCall {s t : State} {x : Limb} (h : s.popCall = .ok (x, t)) : Kept s t := by
  unfold State.popCall at h
  split at h
  · cases h
    exact kept_setCs _ _ (by rw [List.length_dropLast]; omega)
  · cases h

theorem kept_pushCall {s t : State} {x : Limb} (h : s.pushCall x = .ok t) : Kept s t := by
  unfold State.pushCall at h
  split at h
  · cases h
    exact kept_setCs _ _ (by rw [List.length_append, List.length_singleton]; omega)
  · cases h

theorem kept_pushLoop {s t : State} {e : LoopEntry} (h : s.pushLoop e = .ok t) : Kept s t := by
  unfold State.pushLoop at h
  split at h
  · cases h
    exact kept_setLs _ _ (by rw [List.length_append, List.length_singleton]; omega)
  · cases h

theorem kept_dropLoop (s : State) : Kept s s.dropLoop :=
  kept_setLs _ _ (by rw [List.length_dropLast]; omega)

theorem kept_decLoop {s : State} {e : LoopEntry} (h : s.topLoop = .ok e) : Kept s (s.decLoop e).2 := by
  unfold State.decLoop
  split
  · exact Kept.refl s
  · refine kept_setLs _ _ ?_
    have ne : s.ls ≠ [] := by
      intro e2
      simp [State.topLoop, e2] at h
    have := List.length_pos_iff.mpr ne
    rw [List.length_append, List.length_dropLast, List.length_singleton]
    omega

theorem kept_readGpr {s t : State} {i : Nat} {x : Limb} (h : s.readGpr i = .ok (x, t)) : Kept s t := by
  unfold State.readGpr at h
  split at h
  · cases h
  split at h
  · cases h
    exact Kept.refl _
  split at h
  · exact kept_popCall h
  repeat' split at h
  all_goals
    cases h
    exact Kept.refl _

theorem kept_writeGpr {s t : State} {i x : Nat} (h : s.writeGpr i x = .ok t) : Kept s t := by
  unfold State.writeGpr State.storeGpr at h
  split at h
  · cases h
  split at h
  · split at h
    · cases h
      exact Kept.refl _
    split at h
    · exact kept_pushCall h
    repeat' split at h
    all_goals
      cases h
      first
        | exact kept_setXs _ _
        | exact kept_setSp _ _ rfl
  · cases h

theorem kept_stepGpr (s : State) (i k : Nat) : Ensures (Kept s) (s.stepGpr i k) := by
  unfold State.stepGpr
  split
  · exact ensures_raise (Kept.refl s).setResponse
  · next v t h =>
    split
    · exact ensures_raise (kept_readGpr h).setResponse
    · next u h2 => exact ensures_answer ((kept_readGpr h).trans (kept_writeGpr h2)).setResponse

theorem Special.set_rnd (sp : Special) (v : Wide) (r : SpecialReg) : (sp.set v r).rnd = sp.rnd := by
  cases r <;> rfl

theorem except_map_ok {ε α β : Type} {f : α → β} {x : Except ε α} {y : β} (h : x.map f = .ok y) :
    ∃ a, x = .ok a ∧ f a = y := by
  cases x with
  | ok a => exact ⟨a, rfl, Except.ok.inj h⟩
  | error e => cases h

/-- What an instruction object may issue, it issues as exec does it (00_scope.md R12). -/
theorem issue_eq_exec (i : Instr) (s : State) (h : i.issuable = true) : issue i s = exec i s := by
  cases i <;> first | rfl | cases h

theorem issue_kept (i : Instr) (s : State) : Ensures (Kept s) (issue i s) := by
  have hp : ∀ p, Kept s (s.setResponse p) := (Kept.refl s).setResponse
  have st : ∀ x : Except Err (Result × State), (∀ r t, x = .ok (r, t) → Kept s t) → Ensures (Kept s) (settle s x) :=
    fun x h => ensures_settle hp fun r t e => (h r t e).setResponse
  cases i <;> simp only [issue]
  case gprGet i =>
    exact st _ fun r t h => by
      obtain ⟨⟨a, b⟩, h1, h2⟩ := except_map_ok h
      cases h2
      exact kept_readGpr h1
  case gprSet i x =>
    exact st _ fun r t h => by
      obtain ⟨a, h1, h2⟩ := except_map_ok h
      cases h2
      exact kept_writeGpr h1
  case gprInc i => exact kept_stepGpr _ _ _
  case gprIncWb i => exact kept_stepGpr _ _ _
  case loopPush =>
    exact st _ fun r t h => by
      obtain ⟨a, h1, h2⟩ := except_map_ok h
      cases h2
      exact kept_pushLoop h1
  case loopDec =>
    exact st _ fun r t h => by
      obtain ⟨a, h1, h2⟩ := except_map_ok h
      cases h2
      exact kept_decLoop h1
  case loopPop =>
    exact st _ fun r t h => by
      obtain ⟨a, h1, h2⟩ := except_map_ok h
      cases h2
      exact kept_dropLoop s
  case loopTopEnd =>
    exact st _ fun r t h => by
      obtain ⟨a, h1, h2⟩ := except_map_ok h
      cases h2
      exact Kept.refl s
  case loopTopStart =>
    exact st _ fun r t h => by
      obtain ⟨a, h1, h2⟩ := except_map_ok h
      cases h2
      exact Kept.refl s
  case callPush =>
    exact st _ fun r t h => by
      obtain ⟨a, h1, h2⟩ := except_map_ok h
      cases h2
      exact kept_pushCall h1
  case callPop =>
    exact st _ fun r t h => by
      obtain ⟨⟨a, b⟩, h1, h2⟩ := except_map_ok h
      cases h2
      exact kept_popCall h1
  all_goals try trivial
  all_goals
    simp only [execWwAdd, execWwSub, execWwCmp, execWwAnd, execWwOr, execWwXor, execWwNot, execWwShl, execWwShr,
      execWwGetLimb, execWwSetLimb, execWwSetHLimb, execWwSetHWord, withWide, execRfGet, execRfSet, execRfGetLimb,
      execRfSetLimb, execRfGetHLimb, execRfSetHLimb, execRfGetHWord, execRfSetHWord, execRfGetQWord, execRfSetQWord,
      readPart, writePart, withTarget, granGuard, execCsrGet, execCsrSet, execWsrGet, execWsrSet, execFlagGet,
      execFlagSet, execFlagGetP, execFlagSetP, execFlagSetW, execFlagSetXW, execFlagSetZml, execFlagSetXZml,
      execFlagSetCm, execFlagSetXCm, execFlagSetL, execFlagSetXL, deriveFlags, execDmemGet, execDmemSet,
      execDmemGetLimb, execDmemSetLimb, execImemFetch, execFinish]
    repeat' first
      | exact ensures_raise hp
      | exact ensures_report hp
      | refine ensures_requireIndex hp fun _ => ?_
      | refine ensures_requireRange hp fun _ => ?_
      | refine ensures_rndGuard hp ?_
      | refine ensures_answer (Kept.setResponse ?_)
      | exact Kept.refl _
      | exact kept_setFlags _ _
      | exact kept_store _ _ _ _ _
      | exact kept_setFinish _ _
      | exact kept_writeCell _ _ _ (by assumption)
      | exact kept_writeMemLimb _ _ _ (by assumption)
      | exact kept_setSp _ _ rfl
      | exact kept_setSp _ _ (Special.set_rnd _ _ _)
      | split

/-- The run of an instruction object leaves alone what each operation leaves alone, whether it returns, an error ends
it, or it stops. -/
theorem runIns_kept (ins : InstrObj) (s : State) : (runIns ins s).Ensures (Kept s) :=
  runProg_keeps (P := Kept s)
    (fun i u h => (ensures_iff _).mpr fun t e => h.trans ((ensures_iff _).mp (issue_kept i u) t e))
    (fun _ p h => h.setResponse p) ins.nesting ins.exec [] [] s (Kept.refl s)

end Sys2Proof.Machine
end

