-- ==== Sys2Proof/Laws/PerInstr.lean ====
section
/-! SUPPORT. Per operation: the record the encoder writes has the fields of its format, and the check that an instruction
object issues only what it may is the same on a selector as on the operation. -/

namespace Sys2Proof.Laws.Records

/-- The record of an operation has as many field values as its format has fields (spec 30_encoding.md R72, R75), its
selector is one of the map's (R75), and its selector is one an instruction object may use exactly when the operation is
one it may issue (60_exceptions.md R320). -/
def Statement (i : Instr) : Prop :=
  (encode i).fields.length = fieldCount (encode i).opSel.toNat ∧ decide ((encode i).opSel.toNat < 0x74) = true ∧
    selectorIssuable (encode i).opSel = i.issuable

theorem wwAdd (a b : Nat) (c : Bool) : Statement (.wwAdd a b c) := ⟨rfl, rfl, rfl⟩

theorem wwSub (a b : Nat) (c : Bool) : Statement (.wwSub a b c) := ⟨rfl, rfl, rfl⟩

theorem wwCmp (a b : Nat) : Statement (.wwCmp a b) := ⟨rfl, rfl, rfl⟩

theorem wwAnd (a b : Nat) : Statement (.wwAnd a b) := ⟨rfl, rfl, rfl⟩

theorem wwOr (a b : Nat) : Statement (.wwOr a b) := ⟨rfl, rfl, rfl⟩

theorem wwXor (a b : Nat) : Statement (.wwXor a b) := ⟨rfl, rfl, rfl⟩

theorem wwNot (a : Nat) : Statement (.wwNot a) := ⟨rfl, rfl, rfl⟩

theorem wwShl (a n : Nat) : Statement (.wwShl a n) := ⟨rfl, rfl, rfl⟩

theorem wwShr (a n : Nat) : Statement (.wwShr a n) := ⟨rfl, rfl, rfl⟩

theorem wwGetLimb (a i : Nat) : Statement (.wwGetLimb a i) := ⟨rfl, rfl, rfl⟩

theorem wwSetLimb (a i x : Nat) : Statement (.wwSetLimb a i x) := ⟨rfl, rfl, rfl⟩

theorem wwSetHLimb (a i : Nat) (u : Bool) (x : Nat) : Statement (.wwSetHLimb a i u x) := ⟨rfl, rfl, rfl⟩

theorem wwSetHWord (a h x : Nat) : Statement (.wwSetHWord a h x) := ⟨rfl, rfl, rfl⟩

theorem rfGet (id : RegId) : Statement (.rfGet id) := by cases id <;> exact ⟨rfl, rfl, rfl⟩

theorem rfSet (id : RegId) (v : Nat) (g : Gran) : Statement (.rfSet id v g) :=
  by cases id <;> cases g <;> exact ⟨rfl, rfl, rfl⟩

theorem rfGetLimb (id : RegId) (i : Nat) : Statement (.rfGetLimb id i) := by cases id <;> exact ⟨rfl, rfl, rfl⟩

theorem rfSetLimb (id : RegId) (i x : Nat) : Statement (.rfSetLimb id i x) := by cases id <;> exact ⟨rfl, rfl, rfl⟩

theorem rfGetHLimb (id : RegId) (i : Nat) (u : Bool) : Statement (.rfGetHLimb id i u) :=
  by cases id <;> exact ⟨rfl, rfl, rfl⟩

theorem rfSetHLimb (id : RegId) (i : Nat) (u : Bool) (x : Nat) : Statement (.rfSetHLimb id i u x) :=
  by cases id <;> exact ⟨rfl, rfl, rfl⟩

theorem rfGetHWord (id : RegId) (h : Nat) : Statement (.rfGetHWord id h) := by cases id <;> exact ⟨rfl, rfl, rfl⟩

theorem rfSetHWord (id : RegId) (h x : Nat) : Statement (.rfSetHWord id h x) := by cases id <;> exact ⟨rfl, rfl, rfl⟩

theorem rfGetQWord (id : RegId) (q : Nat) : Statement (.rfGetQWord id q) := by cases id <;> exact ⟨rfl, rfl, rfl⟩

theorem rfSetQWord (id : RegId) (q x : Nat) : Statement (.rfSetQWord id q x) := by cases id <;> exact ⟨rfl, rfl, rfl⟩

theorem csrGet (n : Nat) : Statement (.csrGet n) := ⟨rfl, rfl, rfl⟩

theorem csrSet (n x : Nat) : Statement (.csrSet n x) := ⟨rfl, rfl, rfl⟩

theorem wsrGet (n : Nat) : Statement (.wsrGet n) := ⟨rfl, rfl, rfl⟩

theorem wsrSet (n v : Nat) : Statement (.wsrSet n v) := ⟨rfl, rfl, rfl⟩

theorem gprGet (i : Nat) : Statement (.gprGet i) := ⟨rfl, rfl, rfl⟩

theorem gprSet (i x : Nat) : Statement (.gprSet i x) := ⟨rfl, rfl, rfl⟩

theorem gprInc (i : Nat) : Statement (.gprInc i) := ⟨rfl, rfl, rfl⟩

theorem gprIncWb (i : Nat) : Statement (.gprIncWb i) := ⟨rfl, rfl, rfl⟩

theorem flagGet (f : Nat) : Statement (.flagGet f) := ⟨rfl, rfl, rfl⟩

theorem flagSet (f : Nat) (b : Bool) : Statement (.flagSet f b) := ⟨rfl, rfl, rfl⟩

theorem flagGetP : Statement (.flagGetP) := ⟨rfl, rfl, rfl⟩

theorem flagSetP (p : Nat) : Statement (.flagSetP p) := ⟨rfl, rfl, rfl⟩

theorem flagSetW (v : Nat) : Statement (.flagSetW v) := ⟨rfl, rfl, rfl⟩

theorem flagSetXW (v : Nat) : Statement (.flagSetXW v) := ⟨rfl, rfl, rfl⟩

theorem flagSetZml (v : Nat) : Statement (.flagSetZml v) := ⟨rfl, rfl, rfl⟩

theorem flagSetXZml (v : Nat) : Statement (.flagSetXZml v) := ⟨rfl, rfl, rfl⟩

theorem flagSetCm (v : Nat) : Statement (.flagSetCm v) := ⟨rfl, rfl, rfl⟩

theorem flagSetXCm (v : Nat) : Statement (.flagSetXCm v) := ⟨rfl, rfl, rfl⟩

theorem flagSetL (v : Nat) : Statement (.flagSetL v) := ⟨rfl, rfl, rfl⟩

theorem flagSetXL (v : Nat) : Statement (.flagSetXL v) := ⟨rfl, rfl, rfl⟩

theorem dmemGet (a : Nat) : Statement (.dmemGet a) := ⟨rfl, rfl, rfl⟩

theorem dmemSet (a v : Nat) : Statement (.dmemSet a v) := ⟨rfl, rfl, rfl⟩

theorem dmemGetLimb (b : Nat) : Statement (.dmemGetLimb b) := ⟨rfl, rfl, rfl⟩

theorem dmemSetLimb (b x : Nat) : Statement (.dmemSetLimb b x) := ⟨rfl, rfl, rfl⟩

theorem imemFetch (a : Nat) : Statement (.imemFetch a) := ⟨rfl, rfl, rfl⟩

theorem loopPush (count endAddr start : Limb) : Statement (.loopPush count endAddr start) := ⟨rfl, rfl, rfl⟩

theorem loopDec : Statement (.loopDec) := ⟨rfl, rfl, rfl⟩

theorem loopPop : Statement (.loopPop) := ⟨rfl, rfl, rfl⟩

theorem loopTopEnd : Statement (.loopTopEnd) := ⟨rfl, rfl, rfl⟩

theorem loopTopStart : Statement (.loopTopStart) := ⟨rfl, rfl, rfl⟩

theorem callPush (addr : Limb) : Statement (.callPush addr) := ⟨rfl, rfl, rfl⟩

theorem callPop : Statement (.callPop) := ⟨rfl, rfl, rfl⟩

theorem bpToggle (addr passes : Nat) : Statement (.bpToggle addr passes) := ⟨rfl, rfl, rfl⟩

theorem bpEval (addr : Nat) : Statement (.bpEval addr) := ⟨rfl, rfl, rfl⟩

theorem fbArm (cond : FbCond) : Statement (.fbArm cond) := by cases cond <;> exact ⟨rfl, rfl, rfl⟩

theorem fbEval : Statement (.fbEval) := ⟨rfl, rfl, rfl⟩

theorem step : Statement (.step) := ⟨rfl, rfl, rfl⟩

theorem finish : Statement (.finish) := ⟨rfl, rfl, rfl⟩

theorem reset : Statement (.reset) := ⟨rfl, rfl, rfl⟩

theorem clearRegs : Statement (.clearRegs) := ⟨rfl, rfl, rfl⟩

end Sys2Proof.Laws.Records
end

