-- ==== Sys2Proof/Tests/Slice0.lean ====
section
/-! SUPPORT. The model's own tests: ill-formed terms that the checks refuse, one record per operation written out from
the spec's selector map, one step per operation with the result the spec's test vectors give (95_test_vectors.md, or the
rule's worked example), and for every statement with hypotheses a witness that meets them. -/

open Sys2Proof Sys2Proof.Machine Sys2Proof.Claims

namespace Sys2Proof.Tests

/-! ### Helpers -/

/-- `ONES`, the word with all 256 bits set. -/
def ones : Nat := 2 ^ 256 - 1

/-- The response of one operation, none when it does not answer. -/
def resp (i : Instr) (s : State) : Option Response :=
  match exec i s with
  | .next t => some t.response
  | _ => none

/-- The state after one operation. -/
def after (i : Instr) (s : State) : State :=
  match exec i s with
  | .next t => t
  | _ => s

/-- The response of one step of the machine, none when it does not answer. -/
def stepResp (s : State) : Option Response :=
  match step s with
  | .next t => some t.response
  | _ => none

/-- The state after one step of the machine. -/
def afterStep (s : State) : State :=
  match step s with
  | .next t => t
  | _ => s

/-- The fault a step ends in. -/
def faultOf (a : Answer) : Option Fault :=
  match a with
  | .fault f => some f
  | _ => none

/-- A result, no error, no diagnostic. -/
def ok (r : Result) : Option Response := some (said r)

/-- An error. -/
def err (e : Err) : Option Response := some (failed e)

/-- A result with one diagnostic. -/
def warned (r : Result) (d : Diag) : Option Response := some ⟨r, none, [d]⟩

/-- A wide word. -/
def word (n : Nat) : Result := .wide (BitVec.ofNat 256 n)

/-- The reset state under the strict policy and the ignore policy. -/
def strictState : State := { State.reset with config := { Config.default with uninitRead := .strict, rndWrite := .ignore } }

/-- `instr nop: ; next none` (95_test_vectors.md P4). -/
def nop : InstrObj := ⟨"nop", 1, "", .done (.text (.lit "")) .none, 0⟩

/-- `instr inc: GPR.INC 2 ; next none` (95_test_vectors.md P4). -/
def inc : InstrObj := ⟨"inc", 1, "", .call 0x22 [.lit 2] (.done (.text (.lit "")) .none), 0⟩

/-- `instr fin: FINISH ; next none` (95_test_vectors.md P4). -/
def fin : InstrObj := ⟨"fin", 1, "", .call 0x71 [] (.done (.text (.lit "")) .none), 0⟩

/-- `instr j: ; next t` (95_test_vectors.md P4). -/
def jump (t : Nat) : InstrObj := ⟨"j", 1, "", .done (.text (.lit "")) (.target (.lit t)), 0⟩

/-- `instr ret: t := GPR.GET 1 ; next t` (95_test_vectors.md P3). -/
def ret : InstrObj := ⟨"ret", 1, "", .call 0x20 [.lit 1] (.done (.text (.lit "")) (.target (.res 0))), 0⟩

/-- The construction inputs with a program, a start and a stop address. -/
def inputs (imem : List InstrObj) (start : Nat) (stop : Int) : Params :=
  { Params.unloaded with imem := imem, startPc := start, stopAddr := some stop }

/-- The machine constructed with a program (70_reset_and_hazards.md R341). -/
def loaded (imem : List InstrObj) (start : Nat) (stop : Int) : State :=
  machineOf Config.default (inputs imem start stop)

/-- The machine of 95_test_vectors.md 2.6: DMEM_INIT = [7, ONES] and three instructions. -/
def mem26 : State :=
  machineOf Config.default { Params.unloaded with imem := [nop, inc, fin], dmemInit := [7, ones] }

/-! ### Well-formedness -/

theorem test_wf_refuses_depths :
    Instr.wf (.fbArm (.callDepth 32)) = false ∧ Instr.wf (.fbArm (.loopDepth 32)) = false ∧
    Instr.wf (.fbArm (.callDepth 31)) = true := by decide

theorem test_wf_refuses_programs :
    Prog.wf (.call 0x70 [] (.done (.text (.lit "")) .none)) = false ∧ Prog.wf (.call 0x72 [] (.done (.text (.lit "")) .none)) = false ∧
    Prog.wf (.branch (.lit 0) (.done (.text (.lit "")) .none) (.call 0x73 [] (.done (.text (.lit "")) .none))) = false ∧
    Prog.wf (.call 0x60 [.lit 1, .lit 1] (.done (.text (.lit "")) .none)) = false ∧ fin.wf = true ∧
    Prog.wf (.run 0 (.call 0x61 [.lit 1] (.done (.text (.lit "")) .none))) = false ∧
    (inputs [⟨"bad", 1, "", .call 0x63 [] (.done (.text (.lit "")) .none), 0⟩] 0 0).valid = false := by decide

theorem test_wf_refuses_clashing_numbers :
    Config.default.wf = true ∧ { Config.default with csrFlags := 0x7D7 }.wf = false ∧
    { Config.default with csrRnd := 0x7D0 }.wf = false ∧ { Config.default with csrRnd := 0x7C0 }.wf = false ∧
    { Config.default with wsrRnd := 0 }.wf = false := by decide

theorem test_construction_refuses :
    (inputs [] 0 0).valid = false ∧ (inputs [nop] 1 0).valid = false ∧ (inputs [nop] 0 99).valid = true ∧
    { inputs [nop] 0 0 with dmemInit := [2 ^ 256] }.valid = false ∧
    { inputs [nop] 0 0 with dmemInit := List.replicate 129 0 }.valid = false := by decide +kernel

/-! ### Decoding: one record per operation, from the selector map (30_encoding.md R72, R73, R75) -/

theorem test_decode_family0 :
    decode ⟨0x00, [7, 9, 1]⟩ = .ok (.wwAdd 7 9 true) ∧ decode ⟨0x01, [7, 9, 0]⟩ = .ok (.wwSub 7 9 false) ∧
    decode ⟨0x02, [7, 9]⟩ = .ok (.wwCmp 7 9) ∧ decode ⟨0x03, [7, 9]⟩ = .ok (.wwAnd 7 9) ∧
    decode ⟨0x04, [7, 9]⟩ = .ok (.wwOr 7 9) ∧ decode ⟨0x05, [7, 9]⟩ = .ok (.wwXor 7 9) ∧
    decode ⟨0x06, [7]⟩ = .ok (.wwNot 7) ∧ decode ⟨0x07, [7, 9]⟩ = .ok (.wwShl 7 9) ∧
    decode ⟨0x08, [7, 9]⟩ = .ok (.wwShr 7 9) ∧ decode ⟨0x09, [7, 5]⟩ = .ok (.wwGetLimb 7 5) ∧
    decode ⟨0x0A, [7, 5, 3]⟩ = .ok (.wwSetLimb 7 5 3) ∧ decode ⟨0x0B, [7, 5, 1, 3]⟩ = .ok (.wwSetHLimb 7 5 true 3) ∧
    decode ⟨0x0C, [7, 1, 3]⟩ = .ok (.wwSetHWord 7 1 3) := by decide

theorem test_decode_family1 :
    decode ⟨0x10, [0, 5]⟩ = .ok (.rfGet (.general 5)) ∧
    decode ⟨0x11, [1, 2, 9, 1, 4, 0]⟩ = .ok (.rfSet (.special 2) 9 (.limb 4)) ∧
    decode ⟨0x12, [0, 5, 6]⟩ = .ok (.rfGetLimb (.general 5) 6) ∧
    decode ⟨0x13, [0, 5, 6, 8]⟩ = .ok (.rfSetLimb (.general 5) 6 8) ∧
    decode ⟨0x14, [0, 5, 6, 1]⟩ = .ok (.rfGetHLimb (.general 5) 6 true) ∧
    decode ⟨0x15, [0, 5, 6, 0, 8]⟩ = .ok (.rfSetHLimb (.general 5) 6 false 8) ∧
    decode ⟨0x16, [0, 5, 1]⟩ = .ok (.rfGetHWord (.general 5) 1) ∧
    decode ⟨0x17, [0, 5, 1, 8]⟩ = .ok (.rfSetHWord (.general 5) 1 8) ∧
    decode ⟨0x18, [0, 5, 3]⟩ = .ok (.rfGetQWord (.general 5) 3) ∧
    decode ⟨0x19, [0, 5, 3, 8]⟩ = .ok (.rfSetQWord (.general 5) 3 8) ∧
    decode ⟨0x1A, [0x7C0]⟩ = .ok (.csrGet 0x7C0) ∧ decode ⟨0x1B, [0x7D0, 8]⟩ = .ok (.csrSet 0x7D0 8) ∧
    decode ⟨0x1C, [1]⟩ = .ok (.wsrGet 1) ∧ decode ⟨0x1D, [0, 8]⟩ = .ok (.wsrSet 0 8) := by decide

theorem test_decode_family2 :
    decode ⟨0x20, [8]⟩ = .ok (.gprGet 8) ∧ decode ⟨0x21, [1, 100]⟩ = .ok (.gprSet 1 100) ∧
    decode ⟨0x22, [2]⟩ = .ok (.gprInc 2) ∧ decode ⟨0x23, [3]⟩ = .ok (.gprIncWb 3) := by decide

theorem test_decode_family3 :
    decode ⟨0x30, [7]⟩ = .ok (.flagGet 7) ∧ decode ⟨0x31, [6, 1]⟩ = .ok (.flagSet 6 true) ∧
    decode ⟨0x32, []⟩ = .ok .flagGetP ∧ decode ⟨0x33, [0xA5]⟩ = .ok (.flagSetP 0xA5) ∧
    decode ⟨0x34, [9]⟩ = .ok (.flagSetW 9) ∧ decode ⟨0x35, [9]⟩ = .ok (.flagSetXW 9) ∧
    decode ⟨0x36, [9]⟩ = .ok (.flagSetZml 9) ∧ decode ⟨0x37, [9]⟩ = .ok (.flagSetXZml 9) ∧
    decode ⟨0x38, [9]⟩ = .ok (.flagSetCm 9) ∧ decode ⟨0x39, [9]⟩ = .ok (.flagSetXCm 9) ∧
    decode ⟨0x3A, [9]⟩ = .ok (.flagSetL 9) ∧ decode ⟨0x3B, [9]⟩ = .ok (.flagSetXL 9) := by decide

theorem test_decode_family4 :
    decode ⟨0x40, [2]⟩ = .ok (.dmemGet 2) ∧ decode ⟨0x41, [2, 9]⟩ = .ok (.dmemSet 2 9) ∧
    decode ⟨0x42, [37]⟩ = .ok (.dmemGetLimb 37) ∧ decode ⟨0x43, [36, 9]⟩ = .ok (.dmemSetLimb 36 9) ∧
    decode ⟨0x44, [2]⟩ = .ok (.imemFetch 2) := by decide

theorem test_decode_family5 :
    decode ⟨0x50, [2, 10, 5]⟩ = .ok (.loopPush 2 10 5) ∧ decode ⟨0x51, []⟩ = .ok .loopDec ∧
    decode ⟨0x52, []⟩ = .ok .loopPop ∧ decode ⟨0x53, []⟩ = .ok .loopTopEnd ∧
    decode ⟨0x54, []⟩ = .ok .loopTopStart ∧ decode ⟨0x55, [100]⟩ = .ok (.callPush 100) ∧
    decode ⟨0x56, []⟩ = .ok .callPop := by decide

theorem test_decode_family6 :
    decode ⟨0x60, [5, 3]⟩ = .ok (.bpToggle 5 3) ∧ decode ⟨0x61, [5]⟩ = .ok (.bpEval 5) ∧
    decode ⟨0x62, [0, 9]⟩ = .ok (.fbArm .none) ∧ decode ⟨0x62, [1, 9]⟩ = .ok (.fbArm (.callDepth 9)) ∧
    decode ⟨0x62, [2, 9]⟩ = .ok (.fbArm (.loopDepth 9)) ∧ decode ⟨0x62, [3, 9]⟩ = .ok (.fbArm .unassigned) ∧
    decode ⟨0x63, []⟩ = .ok .fbEval := by decide

theorem test_decode_family7 :
    decode ⟨0x70, []⟩ = .ok .step ∧ decode ⟨0x71, []⟩ = .ok .finish ∧ decode ⟨0x72, []⟩ = .ok .reset ∧
    decode ⟨0x73, []⟩ = .ok .clearRegs := by decide

theorem test_decode_granularities :
    decode ⟨0x11, [0, 5, 9]⟩ = .ok (.rfSet (.general 5) 9 .full) ∧
    decode ⟨0x11, [0, 5, 9, 0, 0, 0]⟩ = .ok (.rfSet (.general 5) 9 .full) ∧
    decode ⟨0x11, [0, 5, 9, 2, 7, 1]⟩ = .ok (.rfSet (.general 5) 9 (.halfLimb 7 true)) ∧
    decode ⟨0x11, [0, 5, 9, 3, 0, 0]⟩ = .ok (.rfSet (.general 5) 9 .unassigned) := by decide

theorem test_decode_rejects :
    decode ⟨0x0D, []⟩ = .error (.unassignedSelector 0x0D) ∧ decode ⟨0xFF, [1]⟩ = .error (.unassignedSelector 0xFF) ∧
    decode ⟨0x00, [7, 9]⟩ = .error (.wrongFields 0) ∧ decode ⟨0x00, [7, 9, 2]⟩ = .error (.fieldTooWide 2) ∧
    decode ⟨0x10, [2, 0]⟩ = .error (.fieldTooWide 2) ∧ decode ⟨0x62, [1, 32]⟩ = .error (.fieldTooWide 32) ∧
    decode ⟨0x55, [2 ^ 32]⟩ = .error (.fieldTooWide (2 ^ 32)) := by decide

/-- The source range-checks a register index and names the error of an unknown name (41_register_file.md R130,
43_flags.md R181), whatever its size. -/
theorem test_decode_checked_ids :
    decode ⟨0x10, [0, 256]⟩ = .ok (.rfGet (.general 256)) ∧
    resp (.rfGet (.general 256)) State.reset = err (.indexError 256) ∧
    resp (.rfGet (.special 256)) State.reset = err (.invalidOperand (.number 256)) ∧
    decode ⟨0x30, [16]⟩ = .ok (.flagGet 16) ∧
    resp (.flagGet 16) State.reset = err (.invalidOperand (.number 16)) := by decide

theorem test_table_words :
    decodeTableWord 8 0x00 = some (.wwAdd 0 0 false) ∧ decodeTableWord 8 0x11 = some (.rfSet (.general 0) 0 .full) ∧
    decodeTableWord 8 0x23 = some (.gprIncWb 0) ∧ decodeTableWord 8 0x31 = some (.flagSet 0 false) ∧
    decodeTableWord 8 0x43 = some (.dmemSetLimb 0 0) ∧ decodeTableWord 8 0x50 = some (.loopPush 0 0 0) ∧
    decodeTableWord 8 0x62 = some (.fbArm .none) ∧ decodeTableWord 8 0x73 = some .clearRegs ∧
    decodeTableWord 8 0x74 = none := by decide

theorem test_table_words_run :
    stepResp (State.reset.withFetchWord 8 0x06) = ok (word ones) ∧
    stepResp (State.reset.withFetchWord 8 0x32) = ok (.packed 0) ∧
    stepResp (State.reset.withFetchWord 8 0x70) = err (.indexError 0) ∧
    stepResp (State.reset.withFetchWord 8 0x74) = err (.invalidOperand (.number 0x74)) := by decide

/-! ### Family 0 (95_test_vectors.md 2.1) -/

theorem test_wwAdd :
    resp (.wwAdd 0x1234 0x1111 true) State.reset = ok (.wideCarry 0x2346 false) ∧
    resp (.wwAdd ones ones true) State.reset = ok (.wideCarry (BitVec.ofNat 256 ones) true) ∧
    resp (.wwAdd ones 1 false) State.reset = ok (.wideCarry 0 true) := by decide

theorem test_wwSub :
    resp (.wwSub 0 1 false) State.reset = ok (.wideCarry (BitVec.ofNat 256 ones) true) ∧
    resp (.wwSub 0 ones true) State.reset = ok (.wideCarry 0 true) ∧
    resp (.wwSub 5 3 true) State.reset = ok (.wideCarry 1 false) := by decide

theorem test_wwCmp :
    resp (.wwCmp 1 2) State.reset = ok (.ord .lt) ∧ resp (.wwCmp (2 ^ 255) (2 ^ 255 - 1)) State.reset = ok (.ord .gt) ∧
    resp (.wwCmp ones ones) State.reset = ok (.ord .eq) := by decide

theorem test_wwAnd : resp (.wwAnd 0xF0F0 0xFF00) State.reset = ok (word 0xF000) := by decide

theorem test_wwOr : resp (.wwOr 0xF0F0 0xFF00) State.reset = ok (word 0xFFF0) := by decide

theorem test_wwXor : resp (.wwXor 0xF0F0 0xFF00) State.reset = ok (word 0x0FF0) := by decide

theorem test_wwNot : resp (.wwNot 1) State.reset = ok (word (ones - 1)) := by decide

theorem test_wwShl :
    resp (.wwShl 0x1234 12) State.reset = ok (word 0x1234000) ∧ resp (.wwShl ones 1) State.reset = ok (word (ones - 1)) ∧
    resp (.wwShl ones 255) State.reset = ok (word (2 ^ 255)) ∧ resp (.wwShl ones 256) State.reset = ok (word 0) := by
  decide

theorem test_wwShr :
    resp (.wwShr ones 1) State.reset = ok (word (2 ^ 255 - 1)) ∧ resp (.wwShr (2 ^ 255) 255) State.reset = ok (word 1) ∧
    resp (.wwShr ones 256) State.reset = ok (word 0) := by decide

theorem test_wwGetLimb :
    resp (.wwGetLimb 0x0000000700000006000000050000000400000003000000020000000100000000 3) State.reset =
      ok (.limb 3) ∧
    resp (.wwGetLimb 0 8) State.reset = err (.indexError 8) := by decide

theorem test_wwSetLimb :
    resp (.wwSetLimb ones 0 0) State.reset = ok (word (ones - 0xFFFFFFFF)) ∧
    resp (.wwSetLimb 0 8 (2 ^ 32)) State.reset = err (.indexError 8) ∧
    resp (.wwSetLimb 0 3 (2 ^ 32)) State.reset = err (.rangeError (2 ^ 32)) := by decide

theorem test_wwSetHLimb :
    resp (.wwSetHLimb 0 0 true 0xBEEF) State.reset = ok (word 0xBEEF0000) ∧
    resp (.wwSetHLimb ones 7 true 0) State.reset = ok (word (2 ^ 240 - 1)) := by decide

theorem test_wwSetHWord :
    resp (.wwSetHWord ones 1 0) State.reset = ok (word (2 ^ 128 - 1)) ∧
    resp (.wwSetHWord 0 1 0xAB) State.reset = ok (word (0xAB * 2 ^ 128)) := by decide

/-! ### Family 1 (95_test_vectors.md 2.2, 2.3) -/

theorem test_rfGet :
    resp (.rfGet (.general 0)) State.reset = warned (word 0) (.uninitReg 0 (List.range 16)) ∧
    resp (.rfGet (.special 4)) State.reset = ok (.wide rndSentinel) ∧
    resp (.rfGet (.general 0)) strictState = err (.uninitRead (.uninitReg 0 (List.range 16))) := by decide

theorem test_rfGet_errors :
    resp (.rfGet (.general 32)) State.reset = err (.indexError 32) ∧
    resp (.rfGet (.special 6)) State.reset = err (.invalidOperand (.number 6)) := by decide

theorem test_rfSet :
    (after (.rfSet (.general 1) (7 * 2 ^ 32) (.limb 1)) State.reset).w[1] = BitVec.ofNat 256 (7 * 2 ^ 32) ∧
    (after (.rfSet (.general 1) (7 * 2 ^ 32) (.limb 1)) State.reset).valid[1] = 0b1100#16 ∧
    (after (.rfSet (.special 5) (2 ^ 255) .full) State.reset).sp.acc = BitVec.ofNat 256 (2 ^ 255) := by decide

theorem test_rfSet_errors :
    resp (.rfSet (.general 32) (2 ^ 256) .full) State.reset = err (.indexError 32) ∧
    resp (.rfSet (.special 4) (2 ^ 256) .full) State.reset = err (.invalidOperand .rnd) ∧
    resp (.rfSet (.special 4) (2 ^ 256) .full) strictState = err (.rangeError (2 ^ 256)) ∧
    resp (.rfSet (.special 4) 0 .full) strictState = ok .none ∧
    (after (.rfSet (.special 4) 0 .full) strictState).sp.rnd = rndSentinel := by decide

theorem test_rfGetLimb :
    resp (.rfGetLimb (.general 2) 3) (after (.rfSetHLimb (.general 2) 3 false 0x1234) State.reset) =
      warned (.limb 0x1234) (.uninitReg 2 [7]) ∧
    resp (.rfGetLimb (.general 0) 8) State.reset = err (.indexError 8) := by decide

theorem test_rfSetLimb :
    (after (.rfSetLimb (.general 0) 7 0xAABBCCDD) State.reset).w[0] = BitVec.ofNat 256 (0xAABBCCDD * 2 ^ 224) ∧
    (after (.rfSetLimb (.general 0) 7 0xAABBCCDD) State.reset).valid[0] = 0xC000#16 := by decide

theorem test_rfGetHLimb :
    resp (.rfGetHLimb (.general 1) 0 true) (after (.rfSet (.general 1) 0xBEEF0000 .full) State.reset) =
      ok (.halfLimb 0xBEEF) := by decide

theorem test_rfSetHLimb :
    (after (.rfSetHLimb (.general 2) 3 false 0x1234) State.reset).w[2] = BitVec.ofNat 256 (0x1234 * 2 ^ 96) ∧
    (after (.rfSetHLimb (.general 2) 3 false 0x1234) State.reset).valid[2] = 0x40#16 := by decide

theorem test_rfGetHWord :
    resp (.rfGetHWord (.general 4) 1) (after (.rfSet (.general 4) ones .full) State.reset) =
      ok (.halfWord (BitVec.ofNat 128 (2 ^ 128 - 1))) ∧
    resp (.rfGetHWord (.general 0) 2) State.reset = err (.indexError 2) := by decide

theorem test_rfSetHWord :
    (after (.rfSetHWord (.general 5) 1 1) State.reset).w[5] = BitVec.ofNat 256 (2 ^ 128) ∧
    (after (.rfSetHWord (.general 5) 1 1) State.reset).valid[5] = 0xFF00#16 := by decide

theorem test_rfGetQWord :
    resp (.rfGetQWord (.general 6) 3) (after (.rfSet (.general 6) (5 * 2 ^ 192) .full) State.reset) =
      ok (.quarterWord 5) ∧
    resp (.rfGetQWord (.general 0) 4) State.reset = err (.indexError 4) := by decide

theorem test_rfSetQWord :
    (after (.rfSetQWord (.general 7) 3 1) State.reset).w[7] = BitVec.ofNat 256 (2 ^ 192) ∧
    (after (.rfSetQWord (.general 7) 3 1) State.reset).valid[7] = 0xF000#16 := by decide

theorem test_csrGet :
    resp (.csrGet 0x7C0) (after (.flagSetP 0x85) State.reset) = ok (.limb 0x85) ∧
    resp (.csrGet 0xFC0) State.reset = ok (.limb 0x99999999) ∧
    resp (.csrGet 0x7D7) (after (.wsrSet 0 (2 ^ 255 - 19)) State.reset) = ok (.limb 0x7FFFFFFF) ∧
    resp (.csrGet 0x7D8) State.reset = err (.invalidOperand (.number 0x7D8)) := by decide

theorem test_csrSet :
    resp .flagGetP (after (.csrSet 0x7C0 0xA5) State.reset) = ok (.packed 0xA5) ∧
    resp (.csrSet 0x7C0 0x1FF) State.reset = err (.rangeError 0x1FF) ∧
    (after (.csrSet 0x7D2 0xDEADBEEF) State.reset).sp.mod = BitVec.ofNat 256 (0xDEADBEEF * 2 ^ 64) ∧
    resp (.csrSet 0xFC0 0) State.reset = err (.invalidOperand .rnd) := by decide

theorem test_wsrGet :
    resp (.wsrGet 1) State.reset = ok (.wide rndSentinel) ∧
    resp (.wsrGet 2) State.reset = err (.invalidOperand (.number 2)) := by decide

theorem test_wsrSet :
    resp (.csrGet 0x7D0) (after (.wsrSet 0 (2 ^ 255 - 19)) State.reset) = ok (.limb 0xFFFFFFED) ∧
    resp (.wsrSet 1 0) State.reset = err (.invalidOperand .rnd) ∧
    resp (.wsrSet 0 (2 ^ 256)) State.reset = err (.rangeError (2 ^ 256)) := by decide

/-! ### Family 2 (95_test_vectors.md E6, E7, 2.4) -/

theorem test_gprGet :
    resp (.gprGet 1) (State.reset.setCs [100, 200]) = ok (.limb 200) ∧
    (after (.gprGet 1) (State.reset.setCs [100, 200])).cs = [100] ∧
    resp (.gprGet 9) (after (.rfSet (.special 2) 0x100000002 .full) State.reset) = ok (.limb 1) ∧
    resp (.gprGet 32) State.reset = err (.indexError 32) := by decide

theorem test_gprSet :
    (after (.gprSet 8 0xAABBCCDD) State.reset).sp.rfp = 0xAABBCCDD ∧
    (after (.gprSet 23 4) State.reset).sp.dmp = BitVec.ofNat 256 (4 * 2 ^ 224) ∧
    (after (.gprSet 31 9) State.reset).sp.lc = BitVec.ofNat 256 (9 * 2 ^ 224) ∧
    resp (.gprSet 0 (2 ^ 32)) State.reset = err (.rangeError (2 ^ 32)) ∧
    resp (.gprSet 1 16) (State.reset.setCs (List.replicate 16 0)) = err (.stackOverflow .call) := by decide

theorem test_gprInc :
    resp (.gprGet 7) (after (.gprInc 7) (after (.gprSet 7 0xFFFFFFFF) State.reset)) = ok (.limb 0) ∧
    (after (.gprInc 9) (after (.gprSet 9 0xFFFFFFFF) State.reset)).sp.rfp = 0 ∧
    (after (.gprInc 1) (State.reset.setCs [7])).cs = [8] ∧
    resp (.gprInc 1) State.reset = err (.stackUnderrun .call) := by decide

theorem test_gprIncWb :
    resp (.gprGet 3) (after (.gprIncWb 3) (after (.gprSet 3 0xFFFFFFF0) State.reset)) = ok (.limb 0x10) ∧
    (after (.gprIncWb 1) (State.reset.setCs (List.replicate 15 3 ++ [15]))).cs = List.replicate 15 3 ++ [47] := by
  decide

/-! ### Family 3 (95_test_vectors.md 2.5) -/

theorem test_flagGet :
    resp (.flagGet 6) (after (.flagSetP 0x5A) State.reset) = ok (.bit true) ∧
    resp (.flagGet 5) (after (.flagSetP 0x5A) State.reset) = ok (.bit false) ∧
    resp (.flagGet 8) State.reset = err (.invalidOperand (.number 8)) := by decide

theorem test_flagSet :
    resp .flagGetP (after (.flagSet 6 true) State.reset) = ok (.packed 0x40) ∧
    resp (.flagSet 15 true) State.reset = err (.invalidOperand (.number 15)) := by decide

theorem test_flagGetP :
    resp .flagGetP (after (.flagSet 3 true) (after (.flagSet 0 true) State.reset)) = ok (.packed 0x09) := by decide

theorem test_flagSetP :
    (after (.flagSetP 0xA5) State.reset).flags = ⟨true, false, true, false, false, true, false, true⟩ ∧
    resp (.flagSetP 256) State.reset = err (.rangeError 256) := by decide

theorem test_flagSetW :
    (after (.flagSetW (2 ^ 256)) State.reset).flags.pack = 0x09 ∧
    (after (.flagSetW (2 ^ 256 + 2 ^ 255)) State.reset).flags.pack = 0x05 ∧
    (after (.flagSetW (2 * 2 ^ 256 - 1)) State.reset).flags.pack = 0x07 ∧
    resp (.flagSetW (2 * 2 ^ 256)) State.reset = err (.rangeError (2 * 2 ^ 256)) := by decide

theorem test_flagSetXW :
    (after (.flagSetXW (2 ^ 256)) State.reset).flags.pack = 0x90 ∧
    (after (.flagSetXW (2 * 2 ^ 256 - 1)) (after (.flagSetP 0x0F) State.reset)).flags.pack = 0x7F := by decide

theorem test_flagSetZml :
    (after (.flagSetZml 0) (after (.flagSetP 0xFF) State.reset)).flags.pack = 0xF9 ∧
    (after (.flagSetZml (2 ^ 256 + 2 ^ 255 + 1)) State.reset).flags.pack = 0x06 := by decide

theorem test_flagSetXZml :
    (after (.flagSetXZml (2 ^ 256)) State.reset).flags.pack = 0x80 ∧
    (after (.flagSetXZml (2 ^ 255 + 1)) State.reset).flags.pack = 0x60 := by decide

theorem test_flagSetCm :
    (after (.flagSetCm (2 ^ 256)) State.reset).flags.pack = 0x01 ∧
    (after (.flagSetCm 0) (after (.flagSetP 0xFF) State.reset)).flags.pack = 0xFA := by decide

theorem test_flagSetXCm :
    (after (.flagSetXCm (2 ^ 255)) State.reset).flags.pack = 0x40 ∧
    (after (.flagSetXCm (2 * 2 ^ 256 - 1)) State.reset).flags.pack = 0x50 := by decide

theorem test_flagSetL :
    (after (.flagSetL (2 ^ 256)) (after (.flagSetP 0xFF) State.reset)).flags.pack = 0xFD ∧
    (after (.flagSetL 3) State.reset).flags.pack = 0x02 := by decide

theorem test_flagSetXL :
    (after (.flagSetXL 0) (after (.flagSetP 0xFF) State.reset)).flags.pack = 0xDF ∧
    (after (.flagSetXL 1) State.reset).flags.pack = 0x20 := by decide

/-! ### Family 4 (95_test_vectors.md 2.6) -/

theorem test_dmemGet :
    resp (.dmemGet 0) mem26 = ok (word 7) ∧ resp (.dmemGet 2) mem26 = warned (word 0) (.uninitCell 2) ∧
    resp (.dmemGet 128) mem26 = err (.indexError 128) := by decide

theorem test_dmemSet :
    resp (.dmemGetLimb 128) (after (.dmemSet 4 0x0102030405060708) mem26) = ok (.limb 0x05060708) ∧
    (after (.dmemSet 4 0x0102030405060708) mem26).dmem.read 128 = 0x08 ∧
    resp (.dmemSet 128 (2 ^ 256)) mem26 = err (.indexError 128) ∧
    resp (.dmemSet 0 (2 ^ 256)) mem26 = err (.rangeError (2 ^ 256)) := by decide +kernel

theorem test_dmemGetLimb :
    resp (.dmemGetLimb 63) mem26 = ok (.limb 0xFFFFFFFF) ∧
    resp (.dmemGetLimb 39) (after (.dmemSetLimb 36 0xAABBCCDD) mem26) = ok (.limb 0xAABBCCDD) ∧
    resp (.dmemGetLimb 4096) mem26 = err (.indexError 4096) := by decide

theorem test_dmemSetLimb :
    resp (.dmemGet 1) (after (.dmemSetLimb 36 0xAABBCCDD) State.reset) = ok (word (0xAABBCCDD * 2 ^ 32)) ∧
    resp (.dmemGetLimb 124) (after (.dmemSetLimb 96 1) mem26) = ok (.limb 0) := by decide

theorem test_imemFetch :
    resp (.imemFetch 2) mem26 = ok (.obj fin) ∧ resp (.imemFetch 3) mem26 = err (.indexError 3) := by decide

/-! ### Family 5 (95_test_vectors.md E8, 2.7) -/

theorem test_loopPush :
    (after (.loopPush 2 10 5) State.reset).ls = [⟨2, 10, 5⟩] ∧
    resp (.loopPush 1 1 1) (State.reset.setLs (List.replicate 16 ⟨0, 0, 0⟩)) = err (.stackOverflow .loop) := by decide

theorem test_loopDec :
    resp .loopDec (State.reset.setLs [⟨3, 8, 2⟩, ⟨1, 6, 4⟩]) = ok (.bit true) ∧
    (after .loopDec (State.reset.setLs [⟨3, 8, 2⟩, ⟨1, 6, 4⟩])).ls = [⟨3, 8, 2⟩, ⟨0, 6, 4⟩] ∧
    resp .loopDec (State.reset.setLs [⟨0, 9, 9⟩]) = ok (.bit false) ∧
    resp .loopDec State.reset = err (.stackUnderrun .loop) := by decide

theorem test_loopPop :
    resp .loopPop (State.reset.setLs [⟨5, 20, 10⟩]) = ok (.limb 10) ∧
    (after .loopPop (State.reset.setLs [⟨5, 20, 10⟩])).ls = [] := by decide

theorem test_loopTopEnd :
    resp .loopTopEnd (State.reset.setLs [⟨3, 8, 2⟩, ⟨1, 6, 4⟩]) = ok (.limb 6) ∧
    resp .loopTopEnd State.reset = err (.stackUnderrun .loop) := by decide

theorem test_loopTopStart :
    resp .loopTopStart (State.reset.setLs [⟨3, 8, 2⟩, ⟨1, 6, 4⟩]) = ok (.limb 4) := by decide

theorem test_callPush :
    (after (.callPush 200) (State.reset.setCs [100])).cs = [100, 200] ∧
    resp (.callPush 1) (State.reset.setCs (List.replicate 16 0)) = err (.stackOverflow .call) := by decide

theorem test_callPop :
    resp .callPop (State.reset.setCs [100, 200]) = ok (.limb 200) ∧
    resp .callPop State.reset = err (.stackUnderrun .call) := by decide

/-! ### Family 6 (95_test_vectors.md E9, 2.8) -/

theorem test_bpToggle :
    (after (.bpToggle 5 3) State.reset).bp = [(5, ⟨3, 1⟩)] ∧
    (after (.bpToggle 9 7) (State.reset.setBp [(9, ⟨2, 2⟩)])).bp = [] ∧
    resp (.bpToggle 9 0) State.reset = err (.rangeError 0) := by decide

theorem test_bpEval :
    (after (.bpEval 5) (State.reset.setBp [(5, ⟨3, 1⟩)])).bp = [(5, ⟨3, 2⟩)] ∧
    resp (.bpEval 5) (State.reset.setBp [(5, ⟨3, 3⟩)]) = ok (.bit true) ∧
    (after (.bpEval 5) (State.reset.setBp [(5, ⟨3, 3⟩)])).bp = [(5, ⟨3, 1⟩)] ∧
    resp (.bpEval 10) (State.reset.setBp [(9, ⟨2, 1⟩)]) = ok (.bit false) := by decide

theorem test_fbArm :
    (after (.fbArm (.loopDepth 2)) (after (.fbArm (.callDepth 3)) State.reset)).fb = ⟨true, false, 0, true, 2⟩ ∧
    resp (.fbArm .unassigned) State.reset = err (.invalidOperand (.number 3)) := by decide

theorem test_fbEval :
    resp .fbEval (State.reset.setFb ⟨true, false, 0, false, 0⟩) = ok (.bit true) ∧
    resp .fbEval ((State.reset.setFb ⟨true, true, 1, false, 0⟩).setCs [1, 2]) = ok (.bit false) ∧
    (after .fbEval ((State.reset.setFb ⟨true, true, 1, false, 0⟩).setCs [1])).fb = ⟨false, true, 1, false, 0⟩ := by
  decide

/-! ### Family 7 (95_test_vectors.md E10, part 3) -/

/-- P3's `jal`: push the return address and go to 3, with the call stack as STEP 1 leaves it. -/
theorem test_step_runs_the_instruction :
    resp .step (loaded
        [⟨"jal", 1, "", .call 0x21 [.lit 1, .lit 1] (.done (.text (.lit "")) (.target (.lit 3))), 0⟩, inc, nop, nop] 0 2) =
      ok (.stepDone true "" 1 false) ∧
    (after .step (loaded [⟨"jal", 1, "", .call 0x21 [.lit 1, .lit 1] (.done (.text (.lit "")) (.target (.lit 3))), 0⟩, inc, nop, nop]
      0 2)).pc = 3 ∧
    resp .step (loaded [ret] 0 0) = err (.stackUnderrun .call) ∧
    (after .step (loaded [ret] 0 0)).hist = [("ret", 1)] ∧
    resp .step ((loaded [nop, jump 7] 0 50).setPc 1) = err (.invalidJump 7) := by decide

/-- P6's STEP 2 and STEP 3: the loop's tail jumps back, then falls off the end with no target. -/
theorem test_step_loop_tail :
    (after .step (((loaded [nop, inc] 0 50).setPc 1).setLs [⟨1, 1, 1⟩])).ls = [⟨0, 1, 1⟩] ∧
    resp .step (((loaded [nop, inc] 0 50).setPc 1).setLs [⟨1, 1, 1⟩]) = ok (.stepDone true "" 1 false) ∧
    resp .step (((loaded [nop, inc] 0 50).setPc 1).setLs [⟨0, 1, 1⟩]) = ok (.stepDone false "" 1 false) ∧
    (after .step (((loaded [nop, inc] 0 50).setPc 1).setLs [⟨0, 1, 1⟩])).pc = 1 := by decide

/-- P4b's STEP 1: the STEP in which FINISH is issued returns 1. -/
theorem test_finish :
    (after .finish State.reset).finish = true ∧
    resp .step (loaded [fin, inc, inc, inc] 0 3) = ok (.stepDone true "" 1 false) := by decide

/-- 70_reset_and_hazards.md R343. -/
theorem test_reset :
    (after .reset ((mem26.setBp [(5, ⟨3, 2⟩)]).setPc 2)).bp = [(5, ⟨3, 2⟩)] ∧
    (after .reset ((mem26.setBp [(5, ⟨3, 2⟩)]).setPc 2)).pc = 0 ∧
    resp (.dmemGet 0) (after .reset (after (.dmemSet 0 1) mem26)) = ok (word 7) := by decide

/-- 70_reset_and_hazards.md R344. -/
theorem test_clearRegs :
    (after .clearRegs (after (.gprSet 8 5) (after (.flagSetP 0xFF) State.reset))).sp =
      ⟨0, 0, 0, 0, rndSentinel, 0⟩ ∧
    (after .clearRegs (after (.flagSetP 0xFF) State.reset)).flags.pack = 0xFF := by decide

/-! ### Witnesses: for every statement with hypotheses, states and operands that meet them, at the bounds of each clause -/

/-- A state with 15 call stack entries and 15 loop stack entries, and one with 16 of each. -/
def stacks15 : State := (State.reset.setCs (List.replicate 15 7)).setLs (List.replicate 15 ⟨1, 2, 3⟩)
def stacks16 : State := (State.reset.setCs (List.replicate 16 7)).setLs (List.replicate 16 ⟨1, 2, 3⟩)

theorem witness_WideAddIsExact : ones < 2 ^ 256 ∧ 0 < 2 ^ 256 ∧
    resp (.wwAdd ones 0 true) State.reset = ok (.wideCarry 0 true) := by decide

theorem witness_WideSubIsExact : 0 < 2 ^ 256 ∧ ones < 2 ^ 256 ∧
    resp (.wwSub ones ones false) State.reset = ok (.wideCarry 0 false) := by decide

theorem witness_WideCompareIsUnsigned : ones < 2 ^ 256 ∧
    resp (.wwCmp ones 0) State.reset = ok (.ord .gt) ∧ resp (.wwCmp 0 ones) State.reset = ok (.ord .lt) := by decide

theorem witness_WideBitwiseBits : ones < 2 ^ 256 ∧ resp (.wwAnd ones ones) State.reset = ok (word ones) ∧
    resp (.wwXor ones ones) State.reset = ok (word 0) ∧ resp (.wwNot ones) State.reset = ok (word 0) := by decide

theorem witness_WideShiftBits : ones < 2 ^ 256 ∧ resp (.wwShl ones 0) State.reset = ok (word ones) ∧
    resp (.wwShr ones 255) State.reset = ok (word 1) ∧ resp (.wwShr ones 256) State.reset = ok (word 0) := by decide

theorem witness_LimbSetThenGet : ones < 2 ^ 256 ∧
    resp (.wwGetLimb ones 7) State.reset = ok (.limb 0xFFFFFFFF) ∧
    resp (.wwSetLimb 0 7 (2 ^ 32 - 1)) State.reset = ok (word ((2 ^ 32 - 1) * 2 ^ 224)) ∧
    resp (.wwGetLimb ones 8) State.reset = err (.indexError 8) ∧
    resp (.wwSetLimb ones 7 (2 ^ 32)) State.reset = err (.rangeError (2 ^ 32)) := by decide

theorem witness_HalfPartsReplaced : ones < 2 ^ 256 ∧
    resp (.wwSetHLimb 0 7 true (2 ^ 16 - 1)) State.reset = ok (word ((2 ^ 16 - 1) * 2 ^ 240)) ∧
    resp (.wwSetHWord ones 0 (2 ^ 128 - 1)) State.reset = ok (word ones) := by decide

theorem witness_WideAluChecks :
    resp (.wwAdd (2 ^ 256) (2 ^ 256) true) State.reset = err (.rangeError (2 ^ 256)) ∧
    resp (.wwSetLimb (2 ^ 256) 8 (2 ^ 32)) State.reset = err (.rangeError (2 ^ 256)) ∧
    resp (.wwOr ones (2 ^ 256)) State.reset = err (.rangeError (2 ^ 256)) ∧
    resp (.wwSetHLimb ones 8 true (2 ^ 16)) State.reset = err (.indexError 8) ∧
    resp (.wwSetHWord ones 2 (2 ^ 128)) State.reset = err (.indexError 2) ∧
    resp (.wwSetHLimb ones 7 true (2 ^ 16)) State.reset = err (.rangeError (2 ^ 16)) ∧
    resp (.wwSetHWord ones 1 (2 ^ 128)) State.reset = err (.rangeError (2 ^ 128)) := by decide

theorem witness_WideArithmeticLaws : ones < 2 ^ 256 ∧ 256 ≤ 256 ∧
    resp (.wwAdd ones 1 false) State.reset = ok (.wideCarry 0 true) ∧
    resp (.wwSub 0 1 false) State.reset = ok (.wideCarry (BitVec.ofNat 256 ones) true) := by decide

theorem witness_WideAluIsPure : isAlu (.wwSetHWord 0 1 0) = true ∧ isAlu (.wwAdd ones ones true) = true ∧
    isAlu (.rfGet (.general 0)) = false := by decide

/-- A register with its lowest slot alone missing; a register with all slots valid. -/
theorem witness_GeneralRegisterReads :
    resp (.rfGetLimb (.general 31) 0) (after (.rfSetHLimb (.general 31) 0 true 5) State.reset) =
      warned (.limb 0x50000) (.uninitReg 31 [0]) ∧
    resp (.rfGetQWord (.general 31) 3) (after (.rfSet (.general 31) ones .full) State.reset) =
      ok (.quarterWord 0xFFFFFFFFFFFFFFFF) ∧
    resp (.rfGetHWord (.general 31) 1) State.reset =
      warned (.halfWord 0) (.uninitReg 31 [8, 9, 10, 11, 12, 13, 14, 15]) := by decide

theorem witness_SpecialRegisterReads : specialNames[0]? = some .mod ∧ specialNames[5]? = some .acc ∧
    specialNames[6]? = none ∧
    resp (.rfGetQWord (.special 4) 3) State.reset = ok (.quarterWord 0x9999999999999999) := by decide

theorem witness_WholeRegisterWrite :
    Names (.general 31) (.general 31) ∧ Names (.special 5) (.special .acc) ∧
    Target.special .acc ≠ .special .rnd ∧ ones < 2 ^ 256 ∧
    (after (.rfSet (.general 31) ones (.halfLimb 7 true)) State.reset).valid[31] = 0x8000#16 := by
  refine ⟨rfl, rfl, ?_⟩
  decide

theorem witness_PartRegisterWrites :
    Names (.general 0) (.general 0) ∧ Target.general 0 ≠ .special .rnd ∧ Names (.special 0) (.special .mod) ∧
    resp (.rfSetLimb (.general 0) 7 (2 ^ 32 - 1)) State.reset = ok .none ∧
    resp (.rfSetHLimb (.special 0) 7 true (2 ^ 16 - 1)) State.reset = ok .none ∧
    resp (.rfSetHWord (.general 0) 1 (2 ^ 128 - 1)) State.reset = ok .none ∧
    resp (.rfSetQWord (.general 0) 3 (2 ^ 64 - 1)) State.reset = ok .none := by
  refine ⟨rfl, by decide, rfl, ?_⟩
  decide

theorem witness_RndNeverWritten :
    State.reset.config.wf = true ∧ State.reset.config.rndWrite = .fault ∧ strictState.config.wf = true ∧
    strictState.config.rndWrite = .ignore ∧
    resp (.rfSetQWord (.special 4) 3 (2 ^ 64 - 1)) strictState = ok .none ∧
    resp (.rfSetQWord (.special 4) 3 (2 ^ 64)) strictState = err (.rangeError (2 ^ 64)) ∧
    resp (.rfSet (.special 4) ones (.halfLimb 7 true)) strictState = ok .none ∧
    resp (.rfSet (.special 4) (2 ^ 256) (.limb 7)) strictState = err (.rangeError (2 ^ 256)) ∧
    resp (.rfSet (.special 4) (2 ^ 256) (.limb 7)) State.reset = err (.invalidOperand .rnd) := by decide

theorem witness_RegisterFileChecks :
    resp (.rfSet (.general 32) (2 ^ 256) .unassigned) State.reset = err (.indexError 32) ∧
    resp (.rfGetLimb (.special 6) 8) State.reset = err (.invalidOperand (.number 6)) ∧
    Names (.special 1) (.special .dmp) ∧
    resp (.rfSet (.special 1) (2 ^ 256) (.limb 8)) State.reset = err (.indexError 8) ∧
    resp (.rfSetHWord (.special 1) 2 (2 ^ 128)) State.reset = err (.indexError 2) ∧
    resp (.rfGetQWord (.special 1) 4) State.reset = err (.indexError 4) ∧
    resp (.rfSet (.special 4) (2 ^ 256) .unassigned) State.reset = err (.invalidOperand (.number 3)) ∧
    resp (.rfSet (.special 1) (2 ^ 256) (.halfLimb 7 true)) State.reset = err (.rangeError (2 ^ 256)) ∧
    resp (.rfSetLimb (.special 1) 7 (2 ^ 32)) State.reset = err (.rangeError (2 ^ 32)) := by
  refine ⟨by decide, by decide, rfl, ?_⟩
  decide

theorem witness_CsrReadsTheViews : State.reset.config.wf = true ∧ State.reset.sp.rnd = rndSentinel ∧
    0x7CF ≠ State.reset.config.csrFlags ∧ 0x7CF ≠ State.reset.config.csrRnd ∧
    (∀ k < 8, 0x7CF ≠ State.reset.config.csrModBase + k) ∧
    resp (.csrGet 0x7CF) State.reset = err (.invalidOperand (.number 0x7CF)) := by decide

theorem witness_CsrWritesTheViews : State.reset.config.wf = true ∧
    resp (.csrSet 0x7C0 255) State.reset = ok .none ∧ resp (.csrSet 0x7C0 256) State.reset = err (.rangeError 256) ∧
    resp (.csrSet 0x7D7 (2 ^ 32 - 1)) State.reset = ok .none ∧
    resp (.csrSet 0x7D7 (2 ^ 32)) State.reset = err (.rangeError (2 ^ 32)) := by decide

theorem witness_WsrAndOneStorageOfMod : State.reset.config.wf = true ∧ 2 ≠ State.reset.config.wsrMod ∧
    2 ≠ State.reset.config.wsrRnd ∧ (after (.wsrSet 0 ones) State.reset).sp.mod = BitVec.ofNat 256 ones ∧
    resp (.wsrSet 0 (2 ^ 256)) State.reset = err (.rangeError (2 ^ 256)) := by decide

theorem witness_GprZeroIsConstant : 2 ^ 32 - 1 < 2 ^ 32 ∧
    resp (.gprGet 0) (after (.gprSet 0 (2 ^ 32 - 1)) State.reset) = ok (.limb 0) := by decide

theorem witness_GprPlainStorage : 2 ^ 32 - 1 < 2 ^ 32 ∧
    resp (.gprGet 7) (after (.gprSet 7 (2 ^ 32 - 1)) State.reset) = ok (.limb 0xFFFFFFFF) ∧
    (after (.gprSet 2 (2 ^ 32 - 1)) State.reset).xs[5] = 0 := by decide

theorem witness_GprAliasesOfSpecialLimbs :
    (2, 8) ∈ [(2, 8), (1, 16), (3, 24)] ∧ (3, 24) ∈ [(2, 8), (1, 16), (3, 24)] ∧ 7 < 8 ∧
    resp (.gprGet (24 + 7)) State.reset = ok (.limb 0) ∧
    after (.gprInc (24 + 7)) State.reset = after (.rfSetLimb (.special 3) 7 1) State.reset := by decide

theorem witness_GprX1IsTheCallStack :
    stacks16.cs = List.replicate 15 7 ++ [7] ∧ (List.replicate 15 (7 : Limb)).length < 16 ∧
    (after (.gprInc 1) stacks16).cs = List.replicate 15 7 ++ [8] ∧ State.reset.cs = [] ∧
    resp (.gprIncWb 1) State.reset = err (.stackUnderrun .call) := by decide

theorem witness_GprChecks : resp (.gprSet 32 (2 ^ 32)) State.reset = err (.indexError 32) ∧
    resp (.gprSet 31 (2 ^ 32)) State.reset = err (.rangeError (2 ^ 32)) := by decide

theorem witness_FlagSetThenGet : 7 < 8 ∧ resp (.flagGet 7) (after (.flagSet 7 true) State.reset) = ok (.bit true) ∧
    resp (.flagSet 8 true) State.reset = err (.invalidOperand (.number 8)) := by decide

theorem witness_FlagsPackedRoundTrip : resp .flagGetP (after (.flagSetP 255) State.reset) = ok (.packed 255) ∧
    resp (.flagSetP 256) State.reset = err (.rangeError 256) := by decide

theorem witness_FlagsFromWide : 2 * 2 ^ 256 - 1 < 2 ^ 257 ∧ 2 ^ 257 ≤ 2 * 2 ^ 256 ∧
    resp (.flagSetXW (2 * 2 ^ 256 - 1)) State.reset = ok .none ∧
    resp (.flagSetXW (2 * 2 ^ 256)) State.reset = err (.rangeError (2 * 2 ^ 256)) := by decide

theorem witness_FlagsNarrowSetters : 2 * 2 ^ 256 - 1 < 2 ^ 257 ∧
    resp (.flagSetL (2 * 2 ^ 256 - 1)) State.reset = ok .none ∧
    resp (.flagSetXCm (2 * 2 ^ 256)) State.reset = err (.rangeError (2 * 2 ^ 256)) := by decide

theorem witness_FlagsOfSumAndDifference : ones < 2 ^ 256 ∧
    (after (.flagSetW (2 ^ 256)) State.reset).flags.c = true ∧
    resp (.wwAdd ones 1 false) State.reset = ok (.wideCarry 0 true) := by decide

theorem witness_DmemCellStore : mem26.dmem.wf ∧ 127 < 128 ∧ ones < 2 ^ 256 ∧
    resp (.dmemGet 127) (after (.dmemSet 127 ones) mem26) = ok (word ones) := by decide +kernel

theorem witness_DmemLimbStore : mem26.dmem.wf ∧ 4095 < 4096 ∧ 2 ^ 32 - 1 < 2 ^ 32 ∧
    resp (.dmemGet 127) (after (.dmemSetLimb 4095 (2 ^ 32 - 1)) mem26) = ok (word (0xFFFFFFFF * 2 ^ 224)) := by
  decide +kernel

theorem witness_DmemLoads : resp (.dmemGet 127) mem26 = warned (word 0) (.uninitCell 127) ∧
    resp (.dmemGetLimb 4095) mem26 = warned (.limb 0) (.uninitCell 127) ∧
    resp (.dmemGet 127) strictState = err (.uninitRead (.uninitCell 127)) ∧
    resp (.dmemGetLimb 4094) strictState = err (.uninitRead (.uninitCell 127)) := by decide

theorem witness_MemoryChecksAndFetch : resp (.dmemSet 128 (2 ^ 256)) mem26 = err (.indexError 128) ∧
    resp (.dmemSetLimb 4096 (2 ^ 32)) mem26 = err (.indexError 4096) ∧
    resp (.dmemSet 127 (2 ^ 256)) mem26 = err (.rangeError (2 ^ 256)) ∧
    resp (.dmemSetLimb 4095 (2 ^ 32)) mem26 = err (.rangeError (2 ^ 32)) ∧
    2 < mem26.params.imem.length ∧ mem26.params.imem.length ≤ 3 := by decide

theorem witness_LoopStackOperations : stacks15.ls.length < 16 ∧ resp (.loopPush 1 2 3) stacks15 = ok .none ∧
    16 ≤ stacks16.ls.length ∧ resp (.loopPush 1 2 3) stacks16 = err (.stackOverflow .loop) ∧
    State.reset.ls = [] ∧ stacks16.ls = List.replicate 15 ⟨1, 2, 3⟩ ++ [⟨1, 2, 3⟩] ∧ 0 < (1 : Limb).toNat ∧
    (after .loopDec stacks16).ls = List.replicate 15 ⟨1, 2, 3⟩ ++ [⟨0, 2, 3⟩] ∧
    resp .loopDec (after .loopDec stacks16) = ok (.bit false) := by decide

theorem witness_CallStackOperations : stacks15.cs.length < 16 ∧ (after (.callPush 7) stacks15).cs = stacks16.cs ∧
    16 ≤ stacks16.cs.length ∧ resp (.callPush 7) stacks16 = err (.stackOverflow .call) ∧
    stacks16.cs = List.replicate 15 7 ++ [7] ∧ State.reset.cs = [] := by decide

/-- A table with an entry at 4 and one at 9. -/
def withBreaks : State := State.reset.setBp [(4, ⟨1, 1⟩), (9, ⟨3, 3⟩)]

theorem witness_BreakpointToggle : MapSorted withBreaks.bp ∧ mapGet 5 withBreaks.bp = none ∧ 0 < 1 ∧
    (after (.bpToggle 5 1) withBreaks).bp = [(4, ⟨1, 1⟩), (5, ⟨1, 1⟩), (9, ⟨3, 3⟩)] ∧
    resp (.bpToggle 5 0) withBreaks = err (.rangeError 0) ∧ mapGet 4 withBreaks.bp ≠ none ∧
    (after (.bpToggle 4 0) withBreaks).bp = [(9, ⟨3, 3⟩)] ∧
    (after (.bpToggle 9 2) (after (.bpToggle 9 0) withBreaks)).bp = [(4, ⟨1, 1⟩), (9, ⟨2, 1⟩)] := by
  refine ⟨?_, ?_⟩
  · simp [MapSorted, withBreaks, State.setBp]
  · decide

theorem witness_BreakpointEvaluation : mapGet 5 withBreaks.bp = none ∧ mapGet 4 withBreaks.bp = some ⟨1, 1⟩ ∧
    (1 ≤ 1 ∧ 1 ≤ 1) ∧ (after (.bpEval 4) withBreaks).bp = withBreaks.bp ∧
    mapGet 9 withBreaks.bp = some ⟨3, 3⟩ ∧ resp (.bpEval 9) withBreaks = ok (.bit true) := by decide

theorem witness_BreakpointFiresOnTheNthVisit : mapGet 5 withBreaks.bp = none ∧ 0 < 3 ∧
    hits 5 3 (after (.bpToggle 5 3) withBreaks) = [false, false, true] ∧
    hits 5 1 (after (.bpToggle 5 1) withBreaks) = [true] := by decide

/-- Armed on call depth 16 with 16 entries, on loop depth 15 with 16 entries, with no condition, and not armed. -/
theorem witness_ForceBreakArmAndEvaluate :
    resp .fbEval (after (.fbArm (.callDepth 16)) stacks16) = ok (.bit true) ∧
    resp .fbEval (after (.fbArm (.loopDepth 15)) stacks15) = ok (.bit true) ∧
    resp .fbEval (after (.fbArm (.loopDepth 15)) stacks16) = ok (.bit false) ∧
    resp .fbEval (after (.fbArm .none) stacks16) = ok (.bit true) ∧ State.reset.fb.armed = false ∧
    resp .fbEval State.reset = ok (.bit false) := by decide

/-- A driver that calls for a breakpoint at the label `main`, with a context that knows it, one that does not, and
none. -/
def labelled (ctx : Option (List (String × Nat))) : State :=
  { State.reset with
    params := { Params.unloaded with asmCtx := ctx }
    driver := [.toggleLabel "main" 2] }

theorem witness_LabelBreakpointTargets :
    (labelled none).driver = .toggleLabel "main" 2 :: [] ∧ (labelled none).params.asmCtx = none ∧
    stepResp (labelled none) = err (.invalidOperand (.label "main")) ∧
    mapGet "main" [("loop", 3)] = none ∧
    stepResp (labelled (some [("loop", 3)])) = err (.invalidOperand (.label "main")) ∧
    mapGet "main" [("loop", 3), ("main", 5)] = some 5 ∧
    stepResp (labelled (some [("loop", 3), ("main", 5)])) = ok .none := by decide

/-! The states of the STEP statements: `u` is what `Entered` names, with a breakpoint that fires at the pc. -/

/-- The state in which STEP runs the mnemonic `name` from s. -/
def entered (name : String) (s : State) : State := countMnemonic name (evalTriggers s).2

theorem witness_StepEntersWithTriggersAndCount :
    Entered (mem26.setBp [(0, ⟨1, 1⟩)]) (entered "nop" (mem26.setBp [(0, ⟨1, 1⟩)])) nop true ∧
    Entered ((mem26.setFb ⟨true, false, 0, false, 0⟩).setPc 2)
      (entered "fin" ((mem26.setFb ⟨true, false, 0, false, 0⟩).setPc 2)) fin true ∧
    Entered mem26 (entered "nop" mem26) nop false :=
  ⟨⟨rfl, rfl, rfl⟩, ⟨rfl, rfl, rfl⟩, ⟨rfl, rfl, rfl⟩⟩

/-- `instr via: o := IMEM.FETCH 1 ; run o ; next (its target)`, which runs the object at 1 in its own place. -/
def via (nesting : Nat) : InstrObj :=
  ⟨"via", 9, "", .call 0x44 [.lit 1] (.branch (.same (.mnemonic 0) (.lit "inc"))
    (.run 0 (.done (.append (.text (.mnemonic 0)) (.nested 1)) .none)) (.done (.text (.lit "other")) .none)), nesting⟩

/-- A fetched object seen by its mnemonic and run: the object it is runs once, the trace is made of both texts, and the
cycles are those of the object at the pc. -/
theorem test_run_of_a_fetched_object :
    resp .step (loaded [via 1, inc] 0 9) = ok (.stepDone true "inc" 9 false) ∧
    (after .step (loaded [via 1, inc] 0 9)).xs[0] = 1 ∧ (after .step (loaded [via 1, inc] 0 9)).hist = [("via", 1)] ∧
    resp .step (loaded [via 0, nop] 0 9) = ok (.stepDone true "other" 9 false) := by decide

theorem witness_OperationsRunInOrder :
    evalArgs [.num 5] [.lit 2, .add (.res 0) (.lit 1)] = some [2, 6] ∧ decode ⟨0x21, [2, 6]⟩ = .ok (.gprSet 2 6) ∧
    Instr.issuable (.gprSet 2 6) = true ∧ resp (.gprSet 2 6) State.reset = ok .none ∧
    decode ⟨0x56, []⟩ = .ok .callPop ∧ resp .callPop State.reset = err (.stackUnderrun .call) ∧
    decode ⟨0x70, []⟩ = .ok .step ∧ Instr.issuable .step = false ∧ [Value.obj ret][0]? = some (.obj ret) := by decide

theorem witness_OperationsRunInOrder_nested :
    (∃ t, runProg 0 inc.exec [] [] State.reset = .returned "" none [] t) ∧
    (∃ t, runProg 0 ret.exec [] [] State.reset = .raised (.stackUnderrun .call) [] t) ∧
    runProg 0 (via 0).exec [] [] (loaded [via 0, inc] 0 0) = .stopped (.refused .notFinite) :=
  ⟨⟨_, rfl⟩, ⟨_, rfl⟩, rfl⟩

/-- Results bound by an addition with carry, a comparison and a nested run with a negative target, and conditions, texts,
traces and targets over them; results that differ in a cycle count, and in a trace string, alone. -/
theorem witness_OperationsRunInOrder_values :
    resultValues (.wideCarry 5 true) = [.num 5, .num 1] ∧ resultValues (.ord .lt) = [.num 3] ∧
    runValues "t" (some (-2)) = [.trace "t", .num 1, .num 1, .num 2] ∧
    evalExpr [.num 5, .num 0] (.res 0) = some 5 ∧ evalExpr [.num 5, .num 0] (.ite (.res 1) (.lit 1) (.lit 2)) = some 2 ∧
    evalExpr [.num 1, .num 4] (.shl (.res 0) (.res 1)) = some 16 ∧ evalExpr [.num 1, .num 4] (.monus (.res 0) (.res 1)) = some 0 ∧
    evalText [.obj inc] (.append (.mnemonic 0) (.asmStr 0)) = some "inc" ∧
    evalTrace [.trace "t", .obj inc] (.append (.nested 0) (.text (.mnemonic 1))) = some "tinc" ∧
    evalNext [.num 5] (.target (.res 0)) = some (some 5) ∧ evalNext [.num 5] (.negative (.res 0)) = some (some (-5)) ∧
    [Value.obj inc].map hideCycles = [Value.obj { inc with cycles := 7 }].map hideCycles ∧
    [Value.trace "t"].map hideTrace = [Value.trace "u"].map hideTrace := by decide

/-- No expression reads the trace string of a nested run, which is no text and no number (60_exceptions.md R324). -/
theorem test_trace_is_not_visible :
    evalExpr [.trace "t"] (.res 0) = none ∧ evalText [.trace "t"] (.mnemonic 0) = none ∧
    evalTrace [.trace "t"] (.nested 0) = some "t" := by decide

/-- An instruction that returns with no target, at the stop address and at the last index; one that jumps to the last
index, and one that jumps to 0. -/
theorem witness_StepOfReturningInstruction :
    Entered (loaded [nop, nop] 0 0) (entered "nop" (loaded [nop, nop] 0 0)) nop false ∧
    (∃ v, runIns nop (entered "nop" (loaded [nop, nop] 0 0)) = .returned "" none [] v ∧ NotLoopTail v) ∧
    Halting (loaded [nop, nop] 0 0) ∧ ¬Halting (loaded [nop, nop] 0 1) ∧ Halting ((loaded [nop, nop] 0 1).setFinish true) ∧
    (∃ v, runIns (jump 1) (loaded [jump 1, jump 0] 0 1) = .returned "" (some 1) [] v ∧ NotLoopTail v) ∧
    (after .step (loaded [jump 1, jump 0] 0 1)).pc = 1 ∧ (after .step (loaded [jump 1, jump 0] 1 1)).pc = 0 := by
  refine ⟨⟨rfl, rfl, rfl⟩, ⟨_, rfl, ?_⟩, Or.inl rfl, ?_, Or.inr rfl, ⟨_, rfl, ?_⟩, by decide, by decide⟩
  · intro e h; cases h
  · rintro (h | h) <;> cases h
  · intro e h; cases h

/-- A loop from 0 to 1, at its end, with a remaining count. -/
def atTail (count start : Limb) : State := ((loaded [nop, inc] 0 50).setPc 1).setLs [⟨count, 1, start⟩]

theorem witness_StepAtLoopTail :
    Entered (atTail 1 1) (entered "inc" (atTail 1 1)) inc false ∧
    (∃ v, runIns inc (entered "inc" (atTail 1 1)) = .returned "" none [] v ∧ v.ls = [] ++ [⟨1, 1, 1⟩] ∧
      (atTail 1 1).pc = (1 : Limb).toNat) ∧
    0 < (1 : Limb).toNat ∧ (1 : Limb).toNat < (atTail 1 1).params.imem.length ∧
    (∃ v, runIns inc (entered "inc" (atTail 0 1)) = .returned "" none [] v ∧ v.ls = [] ++ [⟨0, 1, 1⟩]) ∧
    (atTail 0 1).params.imem.length ≤ (atTail 0 1).pc + 1 ∧
    resp .step (((loaded [nop, inc, nop] 0 50).setPc 1).setLs [⟨0, 1, 1⟩]) = ok (.stepDone true "" 1 false) :=
  ⟨⟨rfl, rfl, rfl⟩, ⟨_, rfl, rfl, rfl⟩, by decide, by decide, ⟨_, rfl, rfl⟩, by decide, by decide⟩

theorem witness_StepInvalidJump :
    Entered (loaded [jump 1] 0 0) (entered "j" (loaded [jump 1] 0 0)) (jump 1) false ∧
    (∃ v, runIns (jump 1) (entered "j" (loaded [jump 1] 0 0)) = .returned "" (some 1) [] v ∧
      ((1 : Int) < 0 ∨ ((loaded [jump 1] 0 0).params.imem.length : Int) ≤ 1) ∧ NotLoopTail v) ∧
    resp .step (loaded [⟨"n", 1, "", .done (.text (.lit "")) (.negative (.lit 1)), 0⟩] 0 0) = err (.invalidJump (-1)) ∧
    (∃ v, runIns inc (entered "inc" (atTail 1 2)) = .returned "" none [] v ∧ v.ls = [] ++ [⟨1, 1, 2⟩]) ∧
    (atTail 1 2).params.imem.length ≤ (2 : Limb).toNat ∧ resp .step (atTail 1 2) = err (.invalidJump 2) := by
  refine ⟨⟨rfl, rfl, rfl⟩, ⟨_, rfl, Or.inr (by decide), ?_⟩, by decide, ⟨_, rfl, rfl⟩, by decide, by decide⟩
  intro e h; cases h

theorem witness_StepErrors :
    Entered (loaded [ret] 0 0) (entered "ret" (loaded [ret] 0 0)) ret false ∧
    (∃ v, runIns ret (entered "ret" (loaded [ret] 0 0)) = .raised (.stackUnderrun .call) [] v) ∧
    State.reset.params.imem.length ≤ State.reset.pc ∧ resp .step State.reset = err (.indexError 0) :=
  ⟨⟨rfl, rfl, rfl⟩, ⟨_, rfl⟩, by decide, by decide⟩

/-- A STEP at the stop address, a STEP with `finish` set, a STEP with nothing to fall through to, and one that goes
on. -/
theorem witness_FinishAndTheEndsOfARun :
    resp .step (loaded [nop, nop] 0 0) = ok (.stepDone false "" 1 false) ∧ Halting (loaded [nop, nop] 0 0) ∧
    resp .step ((loaded [nop, nop] 0 1).setFinish true) = ok (.stepDone false "" 1 false) ∧
    resp .step (loaded [nop] 0 7) = ok (.stepDone false "" 1 false) ∧ ¬Halting (loaded [nop] 0 7) ∧
    resp .step (loaded [nop, nop] 0 7) = ok (.stepDone true "" 1 false) := by
  refine ⟨by decide, Or.inl rfl, by decide, by decide, ?_, by decide⟩
  rintro (h | h) <;> cases h

theorem witness_ResetReconstructs :
    (construct mem26.config mem26.params).isSome = true ∧
    (construct Config.default (inputs [nop] 0 0)).isSome = true ∧
    construct State.reset.config State.reset.params = none := by decide

theorem witness_ConstructionGivesTheResetTable :
    construct Config.default { Params.unloaded with imem := [nop], dmemInit := [7, ones], bpInit := [5, 5] } =
      some (machineOf Config.default
        { Params.unloaded with imem := [nop], dmemInit := [7, ones], bpInit := [5, 5] }) ∧
    (machineOf Config.default { Params.unloaded with imem := [nop], bpInit := [5, 5] }).bp = [(5, ⟨1, 1⟩)] ∧
    (machineOf Config.default { Params.unloaded with imem := [nop] }).stopAddr = 0 ∧
    (inputs [nop] 0 9).stopAddr = some 9 ∧ (loaded [nop] 0 9).stopAddr = 9 := by decide

theorem witness_EveryStepKeepsInvariants : State.reset.Inv ∧
    stepResp (State.reset.setDriver [.request ⟨0x43, [4095, 7]⟩]) = ok .none ∧
    stepResp (loaded [inc, inc] 0 1) = ok (.stepDone true "" 1 false) := by
  refine ⟨?_, by decide, by decide⟩
  constructor <;> simp [State.reset, Memory.wf, MapSorted, Params.unloaded, Params.valid, Special.reset, ForceBreak.reset]

/-- The reason a step or an operation is refused. -/
def refusal (a : Answer) : Option Refusal :=
  match a with
  | .refused r => some r
  | _ => none

/-- A program that names a result not bound, one with a request no record can carry, one that issues STEP, and one that
runs a fetched object although its depth is 0. -/
theorem witness_EveryOperationAnswers : Instr.finish ≠ .step ∧
    evalArgs [.num 5] [.res 1] = none ∧ evalExpr [.obj nop] (.res 0) = none ∧ evalTrace [.num 5] (.nested 0) = none ∧
    evalArgs [] [.lit (2 ^ 32)] = some [2 ^ 32] ∧ decode ⟨0x55, [2 ^ 32]⟩ = .error (.fieldTooWide (2 ^ 32)) ∧
    refusal (exec .step (loaded [⟨"a", 1, "", .done (.nested 0) .none, 0⟩] 0 0)) = some .unboundResult ∧
    refusal (exec .step (loaded [⟨"b", 1, "", .call 0x55 [.lit (2 ^ 32)] nop.exec, 0⟩] 0 0)) =
      some (.malformedRequest (.fieldTooWide (2 ^ 32))) ∧
    refusal (exec .step (loaded [⟨"c", 1, "", .call 0x70 [] nop.exec, 0⟩] 0 0)) = some (.notIssuable 0x70) ∧
    refusal (exec .step (loaded [via 0, inc] 0 0)) = some .notFinite ∧
    refusal (step (State.reset.setDriver [.request ⟨0x55, [2 ^ 32]⟩])) =
      some (.malformedRequest (.fieldTooWide (2 ^ 32))) := by decide

theorem witness_EveryOperationAnswers_step :
    Entered (loaded [via 0, inc] 0 0) (entered "via" (loaded [via 0, inc] 0 0)) (via 0) false ∧
    runIns (via 0) (entered "via" (loaded [via 0, inc] 0 0)) = .stopped (.refused .notFinite) :=
  ⟨⟨rfl, rfl, rfl⟩, rfl⟩

theorem witness_ErrorsWriteNothing : Instr.gprInc 1 ≠ .step ∧ stacks16.cs.length ≤ 16 ∧
    resp (.gprSet 1 5) stacks16 = err (.stackOverflow .call) ∧ (failed (.stackOverflow .call)).err ≠ none := by decide

theorem witness_OnlyStepAndResetMoveThePc : resp (.dmemSetLimb 4095 7) State.reset = ok .none ∧
    Instr.dmemSetLimb 4095 7 ≠ .reset ∧ Instr.dmemSetLimb 4095 7 ≠ .step ∧ Instr.step ≠ .reset ∧
    resp .step (loaded [inc, inc] 0 1) = ok (.stepDone true "" 1 false) := by decide

theorem witness_FlagsHaveNoOtherWriter : mayWriteFlags (.wwAdd 1 2 true) = false ∧ mayWriteFlags .clearRegs = false ∧
    mayWriteFlags .flagGetP = false ∧ mayWriteFlags .reset = true ∧ mayWriteFlags (.csrSet 0 0) = true := by decide

theorem witness_DecodeOfEncode : Instr.wf (.rfSet (.general 256) 7 (.halfLimb 7 true)) = true ∧
    Instr.wf (.fbArm (.loopDepth 31)) = true ∧ Instr.wf (.flagSet 16 true) = true := by decide

theorem witness_UnassignedSelectorsRaise :
    Unassigned (0x0D#8).toNat ∧ Unassigned (0x57#8).toNat ∧ Unassigned (0x74#8).toNat ∧ Unassigned (0xFF#8).toNat ∧
    ¬Unassigned (0x0C#8).toNat ∧ ¬Unassigned (0x73#8).toNat ∧
    (State.reset.setDriver [.request ⟨0xFF, []⟩]).driver = .request ⟨0xFF, []⟩ :: [] := by
  simp [Unassigned, State.setDriver]

/-- A run ended at its stop address, a run in which a STEP raised, and each with a request served since. -/
def endedRun (calls : List DriverCall) : State := (afterStep (loaded [nop, nop] 0 0)).setDriver calls
def faultedRun (calls : List DriverCall) : State := (afterStep (loaded [ret, nop] 0 0)).setDriver calls

/-- 47_step_engine.md R260, R271: halted is the last STEP's outcome, whatever the driver calls after it; a STEP it
calls then is served. -/
theorem test_the_run_stays_ended :
    (endedRun []).run = ⟨true, none⟩ ∧ (afterStep (endedRun [.request ⟨0x20, [2]⟩])).run = ⟨true, none⟩ ∧
    afterStep (afterStep (endedRun [.request ⟨0x60, [5, 1]⟩])) = afterStep (endedRun [.request ⟨0x60, [5, 1]⟩]) ∧
    (afterStep (endedRun [.request ⟨0x70, []⟩])).hist = [("nop", 2)] ∧
    (afterStep (endedRun [.request ⟨0x72, []⟩])).run = ⟨false, none⟩ := by decide

/-- 60_exceptions.md R312: a run in which a STEP raised stays faulted. -/
theorem test_the_run_stays_faulted :
    (afterStep (faultedRun [.request ⟨0x20, [2]⟩])).run = ⟨false, some (.stackUnderrun .call)⟩ ∧
    faultOf (step (afterStep (faultedRun [.request ⟨0x20, [2]⟩]))) = some (.runFaulted (.stackUnderrun .call)) ∧
    (afterStep (faultedRun [.request ⟨0x72, []⟩])).run = ⟨false, none⟩ := by decide

theorem witness_StepRunsTheDecodedRequest :
    (State.reset.setDriver [.request ⟨0x71, []⟩]).driver = .request ⟨0x71, []⟩ :: [] ∧
    decode ⟨0x71, []⟩ = .ok .finish ∧ Instr.finish ≠ .step ∧
    decode ⟨0x70, []⟩ = .ok .step ∧ resp .step (loaded [nop] 0 0) = ok (.stepDone false "" 1 false) ∧
    refusal (exec .step (loaded [via 0, inc] 0 0)) = some .notFinite ∧
    State.reset.driver = [] ∧ State.reset.run = ⟨false, none⟩ ∧ (endedRun []).driver = [] ∧
    (endedRun []).run = ⟨true, none⟩ ∧ (faultedRun []).run.faulted = some (.stackUnderrun .call) ∧
    (after .step (loaded [nop] 0 0)).runAfter.halted = true := by decide

end Sys2Proof.Tests
end

section
/-! PROOFS. Every operation but STEP answers; what STEP does with the run of its instruction object; and the run of an
instruction object, rule by rule (00_scope.md R12, R14, 47_step_engine.md R265). -/

open Sys2Proof.Claims

namespace Sys2Proof

/-! ### The selector of a decoded record (30_encoding.md R75) -/

/-- P holds of the operation, when the decoder gives one. -/
def Yields (P : Instr → Prop) : Decoded → Prop
  | .ok i => P i
  | .error _ => True

section
variable {P : Instr → Prop}

theorem yields_error (e : DecodeError) : Yields P (.error e) := trivial

theorem yields_u1Field {v : Nat} {k : Bool → Decoded} (h : ∀ b, Yields P (k b)) : Yields P (u1Field v k) := by
  unfold u1Field
  split
  · exact h false
  · exact h true
  · trivial

theorem yields_fixedField {w v : Nat} {k : Nat → Decoded} (h : ∀ x, Yields P (k x)) : Yields P (fixedField w v k) := by
  unfold fixedField
  split
  · exact h v
  · trivial

theorem yields_u32Field {v : Nat} {k : Limb → Decoded} (h : ∀ x, Yields P (k x)) : Yields P (u32Field v k) :=
  yields_fixedField fun _ => h _

theorem yields_regField {k n : Nat} {f : RegId → Decoded} (h : ∀ id, Yields P (f id)) : Yields P (regField k n f) :=
  yields_u1Field fun _ => h _

theorem yields_granField {t i u : Nat} {f : Gran → Decoded} (h : ∀ g, Yields P (f g)) :
    Yields P (granField t i u f) := by
  unfold granField
  split
  · exact h _
  · exact h _
  · exact yields_u1Field fun _ => h _
  · exact h _
  · trivial

theorem yields_condField {t d : Nat} {f : FbCond → Decoded} (h : ∀ c, Yields P (f c)) :
    Yields P (condField t d f) := by
  unfold condField
  split
  · exact h _
  · exact yields_fixedField fun _ => h _
  · exact yields_fixedField fun _ => h _
  · exact h _
  · trivial

/-! Each reader yields only what its constructor makes. -/

variable {op : Nat} {fields : List Nat}

theorem yields_readNone {i : Instr} (h : P i) : Yields P (readNone op i fields) := by
  unfold readNone; split
  · exact h
  · trivial

theorem yields_readNat {mk : Nat → Instr} (h : ∀ a, P (mk a)) : Yields P (readNat op mk fields) := by
  unfold readNat; split
  · exact h _
  · trivial

theorem yields_readNat2 {mk : Nat → Nat → Instr} (h : ∀ a b, P (mk a b)) : Yields P (readNat2 op mk fields) := by
  unfold readNat2; split
  · exact h _ _
  · trivial

theorem yields_readNat3 {mk : Nat → Nat → Nat → Instr} (h : ∀ a b c, P (mk a b c)) :
    Yields P (readNat3 op mk fields) := by
  unfold readNat3; split
  · exact h _ _ _
  · trivial

theorem yields_readW2C {mk : Nat → Nat → Bool → Instr} (h : ∀ a b c, P (mk a b c)) :
    Yields P (readW2C op mk fields) := by
  unfold readW2C; split
  · exact yields_u1Field fun _ => h _ _ _
  · trivial

theorem yields_readWHS {mk : Nat → Nat → Bool → Nat → Instr} (h : ∀ a i u x, P (mk a i u x)) :
    Yields P (readWHS op mk fields) := by
  unfold readWHS; split
  · exact yields_u1Field fun _ => h _ _ _ _
  · trivial

theorem yields_readRG {mk : RegId → Instr} (h : ∀ id, P (mk id)) : Yields P (readRG op mk fields) := by
  unfold readRG; split
  · exact yields_regField fun _ => h _
  · trivial

theorem yields_readRS {mk : RegId → Nat → Gran → Instr} (h : ∀ id v g, P (mk id v g)) :
    Yields P (readRS op mk fields) := by
  unfold readRS; split
  · exact yields_regField fun _ => h _ _ _
  · exact yields_regField fun _ => yields_granField fun _ => h _ _ _
  · trivial

theorem yields_readRLG {mk : RegId → Nat → Instr} (h : ∀ id i, P (mk id i)) : Yields P (readRLG op mk fields) := by
  unfold readRLG; split
  · exact yields_regField fun _ => h _ _
  · trivial

theorem yields_readRLS {mk : RegId → Nat → Nat → Instr} (h : ∀ id i x, P (mk id i x)) :
    Yields P (readRLS op mk fields) := by
  unfold readRLS; split
  · exact yields_regField fun _ => h _ _ _
  · trivial

theorem yields_readRHG {mk : RegId → Nat → Bool → Instr} (h : ∀ id i u, P (mk id i u)) :
    Yields P (readRHG op mk fields) := by
  unfold readRHG; split
  · exact yields_regField fun _ => yields_u1Field fun _ => h _ _ _
  · trivial

theorem yields_readRHS {mk : RegId → Nat → Bool → Nat → Instr} (h : ∀ id i u x, P (mk id i u x)) :
    Yields P (readRHS op mk fields) := by
  unfold readRHS; split
  · exact yields_regField fun _ => yields_u1Field fun _ => h _ _ _ _
  · trivial

theorem yields_readFS {mk : Nat → Bool → Instr} (h : ∀ f b, P (mk f b)) : Yields P (readFS op mk fields) := by
  unfold readFS; split
  · exact yields_u1Field fun _ => h _ _
  · trivial

theorem yields_readLP {mk : Limb → Limb → Limb → Instr} (h : ∀ c e s, P (mk c e s)) :
    Yields P (readLP op mk fields) := by
  unfold readLP; split
  · exact yields_u32Field fun _ => yields_u32Field fun _ => yields_u32Field fun _ => h _ _ _
  · trivial

theorem yields_readCP {mk : Limb → Instr} (h : ∀ a, P (mk a)) : Yields P (readCP op mk fields) := by
  unfold readCP; split
  · exact yields_u32Field fun _ => h _
  · trivial

theorem yields_readFA {mk : FbCond → Instr} (h : ∀ c, P (mk c)) : Yields P (readFA op mk fields) := by
  unfold readFA; split
  · exact yields_condField fun _ => h _
  · trivial

end

/-- What the selector map reads at a selector is an operation of that selector (30_encoding.md R75): one case for each
selector, closed by the lemma of the reader of its format. -/
theorem decodeFields_yields_selector (op : Nat) (fields : List Nat) :
    Yields (fun i => (encode i).opSel.toNat = op) (decodeFields op fields) := by
  unfold decodeFields
  split
  all_goals
    first
    | exact yields_readNone rfl
    | exact yields_readNat fun _ => rfl
    | exact yields_readNat2 fun _ _ => rfl
    | exact yields_readNat3 fun _ _ _ => rfl
    | exact yields_readRG fun _ => rfl
    | exact yields_readRLG fun _ _ => rfl
    | exact yields_readRLS fun _ _ _ => rfl
    | exact yields_readW2C fun _ _ _ => rfl
    | exact yields_readWHS fun _ _ _ _ => rfl
    | exact yields_readRS fun _ _ _ => rfl
    | exact yields_readRHG fun _ _ _ => rfl
    | exact yields_readRHS fun _ _ _ _ => rfl
    | exact yields_readFS fun _ _ => rfl
    | exact yields_readLP fun _ _ _ => rfl
    | exact yields_readCP fun _ => rfl
    | exact yields_readFA fun _ => rfl
    | exact yields_error _

/-- The operation that a record decodes to has the record's selector. -/
theorem opSel_of_decode_ok {r : Request} {i : Instr} (h : decode r = .ok i) :
    (encode i).opSel.toNat = r.opSel.toNat := by
  have hy := decodeFields_yields_selector r.opSel.toNat r.fields
  rw [show decodeFields r.opSel.toNat r.fields = .ok i from h] at hy
  exact hy

end Sys2Proof

namespace Sys2Proof.Machine

/-! ### Every operation but STEP answers (00_scope.md R14) -/

/-- The operation ends in a next state, with a result or an error in its response (log 3). -/
def Answers (a : Answer) : Prop := ∃ t, a = .next t

section
variable {s : State} {go : Answer}

theorem answers_answerWith (ds : List Diag) (r : Result) (s : State) : Answers (answerWith ds r s) := ⟨_, rfl⟩

theorem answers_answer (r : Result) (s : State) : Answers (answer r s) := ⟨_, rfl⟩

theorem answers_raiseAfter (ds : List Diag) (e : Err) (s : State) : Answers (raiseAfter ds e s) := ⟨_, rfl⟩

theorem answers_raise (e : Err) (s : State) : Answers (raise e s) := ⟨_, rfl⟩

theorem answers_report (d : Option Diag) (r : Result) (s : State) : Answers (report d r s) :=
  let ⟨_, h⟩ := report_next d r s
  ⟨_, h⟩

theorem answers_settle (s : State) : ∀ x : Except Err (Result × State), Answers (settle s x)
  | .ok (r, t) => answers_answer r t
  | .error e => answers_raise e s

theorem answers_ite {c : Prop} [Decidable c] {a b : Answer} (ha : Answers a) (hb : Answers b) :
    Answers (if c then a else b) := by
  split
  · exact ha
  · exact hb

theorem answers_requireIndex {bound i : Nat} (h : Answers go) : Answers (requireIndex bound i s go) :=
  answers_ite h (answers_raise _ _)

theorem answers_requireRange {limit v : Nat} (h : Answers go) : Answers (requireRange limit v s go) :=
  answers_ite h (answers_raise _ _)

theorem answers_rndGuard {b : Bool} (h : Answers go) : Answers (rndGuard b s go) :=
  answers_ite (answers_raise _ _) h

theorem answers_withWide {a : Nat} {go : Wide → Answer} (h : ∀ v, Answers (go v)) : Answers (withWide a s go) :=
  answers_requireRange (h _)

theorem answers_withTarget {id : RegId} {go : Target → Answer} (h : ∀ t, Answers (go t)) :
    Answers (withTarget id s go) := by
  unfold withTarget
  split
  · exact h _
  · exact answers_raise _ _

theorem answers_granGuard (h : Answers go) : ∀ g : Gran, Answers (granGuard g s go)
  | .full => h
  | .limb _ => answers_requireIndex h
  | .halfLimb _ _ => answers_requireIndex h
  | .unassigned => answers_raise _ _

theorem answers_readPart (id : RegId) (bound i lo count : Nat) (view : Wide → Result) (s : State) :
    Answers (readPart id bound i lo count view s) :=
  answers_withTarget fun _ => answers_requireIndex (answers_report _ _ _)

theorem answers_writePart (id : RegId) (bound i w x lo count : Nat) (put : Wide → BitVec w → Wide) (s : State) :
    Answers (writePart id bound i w x lo count put s) :=
  answers_withTarget fun _ => answers_requireIndex (answers_rndGuard (answers_requireRange (answers_answer _ _)))

theorem answers_deriveFlags (v : Nat) (f : Flags) (s : State) : Answers (deriveFlags v f s) :=
  answers_requireRange (answers_answer _ _)

theorem answers_stepGpr (s : State) (i k : Nat) : Answers (s.stepGpr i k) := by
  unfold State.stepGpr
  split
  · exact answers_raise _ _
  · split
    · exact answers_raise _ _
    · exact answers_answer _ _

theorem execRfSet_answers (id : RegId) (v : Nat) (g : Gran) (s : State) : Answers (execRfSet id v g s) :=
  answers_withTarget fun _ =>
    answers_granGuard (answers_rndGuard (answers_requireRange (answers_answer _ _))) g

theorem execCsrGet_answers (n : Nat) (s : State) : Answers (execCsrGet n s) := by
  unfold execCsrGet
  split
  · exact answers_answer _ _
  · exact answers_answer _ _
  · exact answers_answer _ _
  · exact answers_raise _ _

theorem execCsrSet_answers (n x : Nat) (s : State) : Answers (execCsrSet n x s) := by
  unfold execCsrSet
  split
  · exact answers_raise _ _
  · exact answers_rndGuard (answers_requireRange (answers_answer _ _))
  · exact answers_requireRange (answers_requireRange (answers_answer _ _))
  · exact answers_requireRange (answers_answer _ _)

theorem execWsrGet_answers (n : Nat) (s : State) : Answers (execWsrGet n s) := by
  unfold execWsrGet
  split
  · exact answers_answer _ _
  · exact answers_raise _ _

theorem execWsrSet_answers (n v : Nat) (s : State) : Answers (execWsrSet n v s) := by
  unfold execWsrSet
  split
  · exact answers_raise _ _
  · exact answers_rndGuard (answers_requireRange (answers_answer _ _))

theorem execFlagGet_answers (f : Nat) (s : State) : Answers (execFlagGet f s) := by
  unfold execFlagGet
  split
  · exact answers_answer _ _
  · exact answers_raise _ _

theorem execFlagSet_answers (f : Nat) (b : Bool) (s : State) : Answers (execFlagSet f b s) := by
  unfold execFlagSet
  split
  · exact answers_answer _ _
  · exact answers_raise _ _

theorem execImemFetch_answers (a : Nat) (s : State) : Answers (execImemFetch a s) := by
  unfold execImemFetch
  split
  · exact answers_answer _ _
  · exact answers_raise _ _

theorem execBpToggle_answers (addr passes : Nat) (s : State) : Answers (execBpToggle addr passes s) := by
  unfold execBpToggle
  split
  · exact answers_answer _ _
  · exact answers_ite (answers_raise _ _) (answers_answer _ _)

theorem execFbArm_answers (cond : FbCond) (s : State) : Answers (execFbArm cond s) := by
  unfold execFbArm
  split
  · exact answers_answer _ _
  · exact answers_raise _ _

end

/-- Each operation but STEP answers in every state: a case for each shape of meaning. -/
theorem exec_answers (i : Instr) (s : State) (h : i ≠ .step) : Answers (exec i s) := by
  cases i <;> simp only [exec]
  case wwAdd | wwSub | wwCmp | wwAnd | wwOr | wwXor =>
    exact answers_withWide fun _ => answers_withWide fun _ => answers_answer _ _
  case wwNot | wwShl | wwShr => exact answers_withWide fun _ => answers_answer _ _
  case wwGetLimb => exact answers_withWide fun _ => answers_requireIndex (answers_answer _ _)
  case wwSetLimb | wwSetHLimb | wwSetHWord =>
    exact answers_withWide fun _ => answers_requireIndex (answers_requireRange (answers_answer _ _))
  case rfGet => exact answers_withTarget fun _ => answers_report _ _ _
  case rfSet id v g => exact execRfSet_answers id v g s
  case rfGetLimb | rfGetHLimb | rfGetHWord | rfGetQWord => exact answers_readPart _ _ _ _ _ _ _
  case rfSetLimb | rfSetHLimb | rfSetHWord | rfSetQWord => exact answers_writePart _ _ _ _ _ _ _ _ _
  case csrGet n => exact execCsrGet_answers n s
  case csrSet n x => exact execCsrSet_answers n x s
  case wsrGet n => exact execWsrGet_answers n s
  case wsrSet n v => exact execWsrSet_answers n v s
  case gprGet | gprSet => exact answers_settle _ _
  case gprInc | gprIncWb => exact answers_stepGpr _ _ _
  case flagGet f => exact execFlagGet_answers f s
  case flagSet f b => exact execFlagSet_answers f b s
  case flagSetP => exact answers_requireRange (answers_answer _ _)
  case flagSetW | flagSetXW | flagSetZml | flagSetXZml | flagSetCm | flagSetXCm | flagSetL | flagSetXL =>
    exact answers_deriveFlags _ _ _
  case dmemGet | dmemGetLimb => exact answers_requireIndex (answers_report _ _ _)
  case dmemSet | dmemSetLimb => exact answers_requireIndex (answers_requireRange (answers_answer _ _))
  case imemFetch a => exact execImemFetch_answers a s
  case loopPush | loopDec | loopPop | loopTopEnd | loopTopStart | callPush | callPop => exact answers_settle _ _
  case bpToggle addr passes => exact execBpToggle_answers addr passes s
  case fbArm cond => exact execFbArm_answers cond s
  case step => exact absurd rfl h
  case flagGetP | bpEval | fbEval | finish | reset | clearRegs => exact answers_answer _ _

/-! ### The request port (30_encoding.md R71, R72, R76) -/

section
variable {run : Instr → State → Answer} {r : Request}

theorem serve_of_decode_ok {i : Instr} (s : State) (h : decode r = .ok i) : serve run r s = run i s := by
  simp only [serve, h]

theorem serve_of_decode_error {e : DecodeError} (s : State) (h : decode r = .error e)
    (hn : ∀ n, e ≠ .unassignedSelector n) : serve run r s = .refused (.malformedRequest e) := by
  unfold serve
  split
  · next i hi => cases h.symm.trans hi
  · next n hu =>
    cases h.symm.trans hu
    exact absurd rfl (hn n)
  · next e' _ he =>
    cases h.symm.trans he
    rfl

end

/-! ### What an instruction object issues (60_exceptions.md R320; log 9) -/

theorem issue_of_not_issuable (i : Instr) (s : State) (h : i.issuable = false) :
    issue i s = .refused (.notIssuable (encode i).opSel.toNat) := by
  cases i
  case bpToggle | bpEval | fbArm | fbEval | step | reset | clearRegs => rfl
  all_goals cases h

/-- The record of an operation that an instruction must not issue is refused by its selector. -/
theorem serve_issue_of_not_issuable {op : BitVec 8} {vals : List Nat} {i : Instr} (s : State)
    (h : decode ⟨op, vals⟩ = .ok i) (hi : i.issuable = false) :
    serve issue ⟨op, vals⟩ s = .refused (.notIssuable op.toNat) := by
  rw [serve_of_decode_ok s h, issue_of_not_issuable i s hi, opSel_of_decode_ok h]

/-- An operation issued by an instruction object answers or is refused; it is no fault. -/
theorem issue_answers_or_refuses (i : Instr) (s : State) : Answers (issue i s) ∨ ∃ r, issue i s = .refused r := by
  cases hi : i.issuable with
  | true =>
    left
    rw [issue_eq_exec i s hi]
    exact exec_answers i s (by rintro rfl; cases hi)
  | false => exact .inr ⟨_, issue_of_not_issuable i s hi⟩

/-- A record issued by an instruction object is answered or refused. -/
theorem serve_issue_answers_or_refuses (r : Request) (s : State) :
    Answers (serve issue r s) ∨ ∃ why, serve issue r s = .refused why := by
  unfold serve
  split
  · exact issue_answers_or_refuses _ s
  · exact .inl (answers_raise _ _)
  · exact .inr ⟨_, rfl⟩

/-! ### The run of an instruction object, rule by rule (00_scope.md R12, 47_step_engine.md R265) -/

section
variable {nested : Prog → List Diag → State → RunEnd} {env : List Value} {ds : List Diag} {s : State}
  {rest : Prog}

theorem runWith_done {trace : Trace} {next : NextPc} {str : String} {req : Option Int}
    (ht : evalTrace env trace = some str) (hn : evalNext env next = some req) :
    runWith nested (.done trace next) env ds s = .returned str req ds s := by
  simp only [runWith, evalDone, ht, hn, Option.map₂_some_some]

theorem runWith_done_unbound {trace : Trace} {next : NextPc}
    (h : evalTrace env trace = none ∨ evalNext env next = none) :
    runWith nested (.done trace next) env ds s = .stopped (.refused .unboundResult) := by
  have hd : evalDone env trace next = none := Option.map₂_eq_none_iff.mpr h
  simp only [runWith, hd]

section
variable {op : BitVec 8} {args : List Expr} {vals : List Nat}

theorem runWith_call_unbound (h : evalArgs env args = none) :
    runWith nested (.call op args rest) env ds s = .stopped (.refused .unboundResult) := by
  simp only [runWith, h]

/-- An operation that ends in a result binds it, and the run goes on from the state it left. -/
theorem runWith_call_result {t : State} (h : evalArgs env args = some vals) (hs : serve issue ⟨op, vals⟩ s = .next t)
    (ht : t.response.err = none) :
    runWith nested (.call op args rest) env ds s =
      runWith nested rest (env ++ resultValues t.response.result) (ds ++ t.response.diags) t := by
  simp only [runWith, h, hs, ht]

/-- An operation that raises ends the run in the state it left (60_exceptions.md R310). -/
theorem runWith_call_error {t : State} {e : Err} (h : evalArgs env args = some vals)
    (hs : serve issue ⟨op, vals⟩ s = .next t) (ht : t.response.err = some e) :
    runWith nested (.call op args rest) env ds s = .raised e (ds ++ t.response.diags) t := by
  simp only [runWith, h, hs, ht]

theorem runWith_call_refused {r : Refusal} (h : evalArgs env args = some vals)
    (hs : serve issue ⟨op, vals⟩ s = .refused r) :
    runWith nested (.call op args rest) env ds s = .stopped (.refused r) := by
  simp only [runWith, h, hs]

end

theorem runWith_branch {c : Expr} {els : Prog} {n : Nat} (h : evalExpr env c = some n) :
    runWith nested (.branch c rest els) env ds s = runWith nested (if n = 0 then els else rest) env ds s := by
  cases n with
  | zero => simp only [runWith, h, if_pos]
  | succ m => simp only [runWith, h, Nat.succ_ne_zero, if_false]

theorem runWith_branch_unbound {c : Expr} {els : Prog} (h : evalExpr env c = none) :
    runWith nested (.branch c rest els) env ds s = .stopped (.refused .unboundResult) := by
  simp only [runWith, h]

section
variable {k : Nat} {o : InstrObj}

theorem runWith_run_unbound (h : objAt env k = none) :
    runWith nested (.run k rest) env ds s = .stopped (.refused .unboundResult) := by
  simp only [runWith, h]

/-- A nested run that returns binds its trace string and its target (log 25). -/
theorem runWith_run_returned {trace : String} {req : Option Int} {es : List Diag} {t : State} (h : objAt env k = some o)
    (hr : nested o.exec ds s = .returned trace req es t) :
    runWith nested (.run k rest) env ds s = runWith nested rest (env ++ runValues trace req) es t := by
  simp only [runWith, h, hr]

theorem runWith_run_raised {e : Err} {es : List Diag} {t : State} (h : objAt env k = some o)
    (hr : nested o.exec ds s = .raised e es t) : runWith nested (.run k rest) env ds s = .raised e es t := by
  simp only [runWith, h, hr]

theorem runWith_run_stopped {a : Answer} (h : objAt env k = some o) (hr : nested o.exec ds s = .stopped a) :
    runWith nested (.run k rest) env ds s = .stopped a := by
  simp only [runWith, h, hr]

end
end

theorem objAt_of_obj {env : List Value} {k : Nat} {o : InstrObj} (h : env[k]? = some (.obj o)) :
    objAt env k = some o := by
  simp only [objAt, h]

theorem objAt_of_no_obj {env : List Value} {k : Nat} (h : ∀ o, env[k]? ≠ some (.obj o)) : objAt env k = none := by
  unfold objAt
  split
  · next o ho => exact absurd ho (h o)
  · rfl

/-- How a run of depth `depth` runs the program of a fetched object (log 25). -/
def nestedRun : Nat → Prog → List Diag → State → RunEnd
  | 0, _, _, _ => .stopped (.refused .notFinite)
  | depth + 1, p, ds, s => runProg depth p [] ds s

theorem runProg_eq_runWith (depth : Nat) : runProg depth = runWith (nestedRun depth) := by
  cases depth <;> rfl

/-! ### A run stops only by a refusal -/

/-- If the run stops, it is refused. -/
def RunEnd.StopsRefused (e : RunEnd) : Prop := ∀ a, e = .stopped a → ∃ r, a = .refused r

theorem stopsRefused_returned (trace : String) (req : Option Int) (ds : List Diag) (s : State) :
    (RunEnd.returned trace req ds s).StopsRefused := fun _ h => nomatch h

theorem stopsRefused_raised (e : Err) (ds : List Diag) (s : State) : (RunEnd.raised e ds s).StopsRefused :=
  fun _ h => nomatch h

theorem stopsRefused_refused (r : Refusal) : (RunEnd.stopped (.refused r)).StopsRefused :=
  fun _ h => ⟨r, (RunEnd.stopped.inj h).symm⟩

theorem runWith_stopsRefused {nested : Prog → List Diag → State → RunEnd} (hn : ∀ p ds s, (nested p ds s).StopsRefused)
    (p : Prog) : ∀ (env : List Value) (ds : List Diag) (s : State), (runWith nested p env ds s).StopsRefused := by
  induction p with
  | done trace next =>
    intro env ds s
    cases ht : evalTrace env trace with
    | none =>
      rw [runWith_done_unbound (.inl ht)]
      exact stopsRefused_refused _
    | some str =>
      cases hx : evalNext env next with
      | none =>
        rw [runWith_done_unbound (.inr hx)]
        exact stopsRefused_refused _
      | some req =>
        rw [runWith_done ht hx]
        exact stopsRefused_returned _ _ _ _
  | call op args rest ih =>
    intro env ds s
    cases hv : evalArgs env args with
    | none =>
      rw [runWith_call_unbound hv]
      exact stopsRefused_refused _
    | some vals =>
      obtain ⟨t, hs⟩ | ⟨r, hs⟩ := serve_issue_answers_or_refuses ⟨op, vals⟩ s
      · cases ht : t.response.err with
        | none =>
          rw [runWith_call_result hv hs ht]
          exact ih _ _ _
        | some e =>
          rw [runWith_call_error hv hs ht]
          exact stopsRefused_raised _ _ _
      · rw [runWith_call_refused hv hs]
        exact stopsRefused_refused _
  | branch c rest els ihr ihe =>
    intro env ds s
    cases hc : evalExpr env c with
    | none =>
      rw [runWith_branch_unbound hc]
      exact stopsRefused_refused _
    | some n =>
      rw [runWith_branch hc]
      split
      · exact ihe _ _ _
      · exact ihr _ _ _
  | run k rest ih =>
    intro env ds s
    cases ho : objAt env k with
    | none =>
      rw [runWith_run_unbound ho]
      exact stopsRefused_refused _
    | some o =>
      have hd := hn o.exec ds s
      cases hr : nested o.exec ds s with
      | returned trace req es t =>
        rw [runWith_run_returned ho hr]
        exact ih _ _ _
      | raised e es t =>
        rw [runWith_run_raised ho hr]
        exact stopsRefused_raised _ _ _
      | stopped a =>
        rw [runWith_run_stopped ho hr, ← hr]
        exact hd

theorem runProg_stopsRefused : ∀ (depth : Nat) (p : Prog) (env : List Value) (ds : List Diag) (s : State),
    (runProg depth p env ds s).StopsRefused
  | 0, p => runWith_stopsRefused (fun _ _ _ => stopsRefused_refused .notFinite) p
  | depth + 1, p => runWith_stopsRefused (fun p ds s => runProg_stopsRefused depth p [] ds s) p

theorem runIns_stopsRefused (ins : InstrObj) (s : State) : (runIns ins s).StopsRefused :=
  runProg_stopsRefused _ _ _ _ _

/-! ### STEP as its instruction object's run goes (47_step_engine.md R261) -/

theorem answers_finishStep (halt0 hit : Bool) (trace : String) (cycles : Nat) (ds : List Diag) (req : Option Int)
    (s : State) : Answers (finishStep halt0 hit trace cycles ds req s) := by
  unfold finishStep
  split
  · exact answers_answerWith _ _ _
  · exact answers_raiseAfter _ _ _

section
variable {s u v : State} {ins : InstrObj} {hit : Bool} {ds : List Diag}

theorem exec_step_of_returned {trace : String} {req : Option Int} (h : Entered s u ins hit)
    (hr : runIns ins u = .returned trace req ds v) :
    exec .step s = finishStep (haltTest s) hit trace ins.cycles ds req v := by
  obtain ⟨hf, rfl, rfl⟩ := h
  simp only [exec, execStep, hf, runObj, hr]

theorem exec_step_of_raised {e : Err} (h : Entered s u ins hit) (hr : runIns ins u = .raised e ds v) :
    exec .step s = raiseAfter ds e v := by
  obtain ⟨hf, rfl, rfl⟩ := h
  simp only [exec, execStep, hf, runObj, hr]

theorem exec_step_of_stopped {a : Answer} (h : Entered s u ins hit) (hr : runIns ins u = .stopped a) :
    exec .step s = a := by
  obtain ⟨hf, rfl, rfl⟩ := h
  simp only [exec, execStep, hf, runObj, hr]

end

theorem exec_step_of_no_object {s : State} (h : s.params.imem[s.pc]? = none) :
    exec .step s = raise (.indexError s.pc) (evalTriggers s).2 := by
  simp only [exec, execStep, h]

/-- STEP answers, or the run of the object at the pc is refused. -/
theorem exec_step_answers_or_run_refused (s : State) :
    Answers (exec .step s) ∨ ∃ (u : State) (ins : InstrObj) (hit : Bool) (r : Refusal),
      Entered s u ins hit ∧ runIns ins u = .stopped (.refused r) := by
  cases hf : s.params.imem[s.pc]? with
  | none =>
    left
    rw [exec_step_of_no_object hf]
    exact answers_raise _ _
  | some ins =>
    have he : Entered s _ ins _ := ⟨hf, rfl, rfl⟩
    cases hr : runIns ins (countMnemonic ins.mnemonic (evalTriggers s).2) with
    | returned trace req ds v =>
      left
      rw [exec_step_of_returned he hr]
      exact answers_finishStep _ _ _ _ _ _ _
    | raised e ds v =>
      left
      rw [exec_step_of_raised he hr]
      exact answers_raiseAfter _ _ _
    | stopped a =>
      obtain ⟨r, rfl⟩ := runIns_stopsRefused _ _ _ hr
      exact .inr ⟨_, _, _, r, he, hr⟩

theorem step_of_request {s : State} {r : Request} {rest : List DriverCall} (h : s.driver = .request r :: rest) :
    step s = serve (callOp exec) r (s.setDriver rest) := by
  simp only [step, h]

/-- Settles O53: each meaning but STEP's answers by its shape, and a run stops only by a refusal, which STEP passes
on. -/
theorem everyOperationAnswers : Obligations.EveryOperationAnswers := by
  refine ⟨exec_answers, fun s => ?_, fun s u ins hit r he hr => exec_step_of_stopped he hr,
    fun depth rest els env ds s => ?_, fun s r rest e hd he hn => ?_⟩
  · obtain ha | ⟨u, ins, hit, r, he, hr⟩ := exec_step_answers_or_run_refused s
    · exact .inl ha
    · exact .inr ⟨u, ins, hit, r, he, hr, exec_step_of_stopped he hr⟩
  · rw [runProg_eq_runWith]
    exact ⟨fun _ _ => runWith_call_unbound, fun _ => runWith_branch_unbound, fun _ _ => runWith_done_unbound,
      fun _ hk => runWith_run_unbound (objAt_of_no_obj hk),
      fun _ _ _ _ hv he hn => runWith_call_refused hv (serve_of_decode_error s he hn)⟩
  · rw [step_of_request hd, serve_of_decode_error _ he hn]

end Sys2Proof.Machine
end

section
/-! PROOFS. What the results so far give an instruction object (log 7, log 8), what of them it cannot see
(60_exceptions.md R321, R324), and that its operations run in order (00_scope.md R12, 47_step_engine.md R265). -/

open Sys2Proof.Claims

namespace Sys2Proof.Machine

/-! ### What results bind and what expressions give (log 7, log 8, log 25) -/

theorem bindsResults : BindsResults := by
  refine ⟨rfl, ?_, fun _ => rfl, ?_, fun _ => rfl, fun _ => rfl, fun _ => rfl, fun _ => rfl, ?_, fun _ => rfl,
    fun _ => rfl⟩
  · intro r c
    cases c <;> rfl
  · intro c
    cases c <;> rfl
  · intro b
    cases b <;> rfl

theorem bindsNestedRun : BindsNestedRun := by
  refine fun trace => ⟨rfl, fun t => ?_⟩
  cases t with
  | ofNat n => simp [runValues]
  | negSucc n => simp [runValues, Int.negSucc_lt_zero]

theorem evalArgs_eq_some_iff {env : List Value} {args : List Expr} {vals : List Nat} :
    evalArgs env args = some vals ↔ args.map (evalExpr env) = vals.map some := by
  induction args generalizing vals with
  | nil => cases vals <;> simp [evalArgs]
  | cons a as ih =>
    cases vals with
    | nil => simp [evalArgs, Option.map₂_eq_some_iff]
    | cons v vs => simp [evalArgs, Option.map₂_eq_some_iff, ih]

theorem evalExpr_ite {env : List Value} {c : Expr} {n : Nat} (a b : Expr) (h : evalExpr env c = some n) :
    evalExpr env (.ite c a b) = evalExpr env (if n = 0 then b else a) := by
  cases n with
  | zero => simp only [evalExpr, h, if_pos]
  | succ m => simp only [evalExpr, h, Nat.succ_ne_zero, if_false]

theorem isSome_map₂ {α β γ : Type} (g : α → β → γ) (a : Option α) (b : Option β) :
    (Option.map₂ g a b).isSome = (a.isSome && b.isSome) := by
  cases a <;> cases b <;> rfl

theorem computes (env : List Value) : Computes env := by
  refine ⟨fun _ => rfl, ?_, ?_, fun c a b n h => evalExpr_ite a b h, fun _ => rfl, ?_, ?_,
    fun _ _ => evalArgs_eq_some_iff⟩
  · intro k n h
    simp only [evalExpr, h]
  · intro a b x y ha hb
    simp [evalExpr, ha, hb, Nat.shiftLeft_eq, Nat.shiftRight_eq_div_pow, Bool.toNat]
  · intro a b x y ha hb
    simp [evalText, evalExpr, ha, hb, Bool.toNat]
  · intro k o h
    simp [evalText, evalExpr, objAt_of_obj h, h]

theorem returns (env : List Value) : Returns env := by
  refine ⟨fun _ => rfl, ?_, ?_, rfl, ?_⟩
  · intro k s h
    simp only [evalTrace, h]
  · intro a b x y ha hb
    simp only [evalTrace, ha, hb, Option.map₂_some_some]
  · intro e n h
    simp [evalNext, h]

/-! ### What an instruction object cannot see (60_exceptions.md R321, R324) -/

/-- `f` hides nothing but the cycle counts of fetched objects and the trace strings of nested runs. -/
def OnlyHides (f : Value → Value) : Prop :=
  ∀ v, f v = v ∨ (∃ o c, v = .obj o ∧ f v = .obj { o with cycles := c }) ∨ ∃ s s', v = .trace s ∧ f v = .trace s'

theorem onlyHides_hideCycles : OnlyHides hideCycles
  | .num _ => .inl rfl
  | .obj o => .inr (.inl ⟨o, 0, rfl, rfl⟩)
  | .trace _ => .inl rfl

theorem onlyHides_hideTrace : OnlyHides hideTrace
  | .num _ => .inl rfl
  | .obj _ => .inl rfl
  | .trace s => .inr (.inr ⟨s, "", rfl, rfl⟩)

section
variable {f : Value → Value} (hf : OnlyHides f)
include hf

/-- What does not look at the cycle count of the object at k is the same with f's part hidden. -/
theorem objAt_map_hidden {α : Type} (g : InstrObj → α) (hg : ∀ o c, g { o with cycles := c } = g o) (env : List Value)
    (k : Nat) : (objAt (env.map f) k).map g = (objAt env k).map g := by
  unfold objAt
  rw [List.getElem?_map]
  cases env[k]? with
  | none => rfl
  | some v => obtain h | ⟨o, c, rfl, h⟩ | ⟨s, s', rfl, h⟩ := hf v <;> simp [h, hg]

theorem evalText_map_hidden (env : List Value) (t : Text) : evalText (env.map f) t = evalText env t := by
  induction t with
  | lit s => rfl
  | mnemonic k => exact objAt_map_hidden hf _ (fun _ _ => rfl) env k
  | asmStr k => exact objAt_map_hidden hf _ (fun _ _ => rfl) env k
  | append a b iha ihb => simp only [evalText, iha, ihb]

theorem evalExpr_res_map_hidden (env : List Value) (k : Nat) :
    evalExpr (env.map f) (.res k) = evalExpr env (.res k) := by
  simp only [evalExpr, List.getElem?_map]
  cases env[k]? with
  | none => rfl
  | some v => obtain h | ⟨o, c, rfl, h⟩ | ⟨s, s', rfl, h⟩ := hf v <;> simp [h]

theorem evalExpr_map_hidden (env : List Value) (e : Expr) : evalExpr (env.map f) e = evalExpr env e := by
  induction e with
  | lit n => rfl
  | res k => exact evalExpr_res_map_hidden hf env k
  | same a b => simp only [evalExpr, evalText_map_hidden hf]
  | ite c a b ihc iha ihb => simp only [evalExpr, ihc, iha, ihb]
  | add a b iha ihb | monus a b iha ihb | mul a b iha ihb | shl a b iha ihb | shr a b iha ihb | land a b iha ihb
  | lor a b iha ihb | xor a b iha ihb | eq a b iha ihb | lt a b iha ihb => simp only [evalExpr, iha, ihb]

theorem evalArgs_map_hidden (env : List Value) (args : List Expr) : evalArgs (env.map f) args = evalArgs env args := by
  induction args with
  | nil => rfl
  | cons a as ih => simp only [evalArgs, evalExpr_map_hidden hf, ih]

theorem evalNext_map_hidden (env : List Value) (next : NextPc) : evalNext (env.map f) next = evalNext env next := by
  cases next <;> simp only [evalNext, evalExpr_map_hidden hf]

/-- Whether a trace is bound does not depend on what f hides, though its string may. -/
theorem isSome_evalTrace_map_hidden (env : List Value) (t : Trace) :
    (evalTrace (env.map f) t).isSome = (evalTrace env t).isSome := by
  induction t with
  | text t => simp only [evalTrace, evalText_map_hidden hf]
  | append a b iha ihb => simp only [evalTrace, isSome_map₂, iha, ihb]
  | nested k =>
    simp only [evalTrace, List.getElem?_map]
    cases env[k]? with
    | none => rfl
    | some v => obtain h | ⟨o, c, rfl, h⟩ | ⟨s, s', rfl, h⟩ := hf v <;> simp [h]

end

theorem evalTrace_map_hideCycles (env : List Value) (t : Trace) :
    evalTrace (env.map hideCycles) t = evalTrace env t := by
  induction t with
  | text t => exact evalText_map_hidden onlyHides_hideCycles env t
  | append a b iha ihb => simp only [evalTrace, iha, ihb]
  | nested k =>
    simp only [evalTrace, List.getElem?_map]
    cases env[k]? with
    | none => rfl
    | some v => cases v <;> rfl

/-- Results that are the same but for what f hides give the same run, as far as `g` looks at its end, when the leaves
do (an induction over the program). -/
theorem runWith_of_map_hidden_eq {nested : Prog → List Diag → State → RunEnd} {f : Value → Value} {α : Type}
    {g : RunEnd → α} (hf : OnlyHides f)
    (hg : ∀ trace next env env' ds s, env.map f = env'.map f →
      g (runWith nested (.done trace next) env ds s) = g (runWith nested (.done trace next) env' ds s)) (p : Prog) :
    ∀ (env env' : List Value) (ds : List Diag) (s : State), env.map f = env'.map f →
      g (runWith nested p env ds s) = g (runWith nested p env' ds s) := by
  have append_same : ∀ {env env' : List Value} (vs : List Value), env.map f = env'.map f →
      (env ++ vs).map f = (env' ++ vs).map f := fun vs h => by simp only [List.map_append, h]
  induction p with
  | done trace next => exact hg trace next
  | call op args rest ih =>
    intro env env' ds s h
    have hargs : evalArgs env args = evalArgs env' args := by
      rw [← evalArgs_map_hidden hf env, h, evalArgs_map_hidden hf env']
    cases hv : evalArgs env' args with
    | none => rw [runWith_call_unbound (hargs.trans hv), runWith_call_unbound hv]
    | some vals =>
      obtain ⟨t, hs⟩ | ⟨r, hs⟩ := serve_issue_answers_or_refuses ⟨op, vals⟩ s
      · cases ht : t.response.err with
        | none =>
          rw [runWith_call_result (hargs.trans hv) hs ht, runWith_call_result hv hs ht]
          exact ih _ _ _ _ (append_same _ h)
        | some e => rw [runWith_call_error (hargs.trans hv) hs ht, runWith_call_error hv hs ht]
      · rw [runWith_call_refused (hargs.trans hv) hs, runWith_call_refused hv hs]
  | branch c rest els ihr ihe =>
    intro env env' ds s h
    have hcond : evalExpr env c = evalExpr env' c := by
      rw [← evalExpr_map_hidden hf env, h, evalExpr_map_hidden hf env']
    cases hc : evalExpr env' c with
    | none => rw [runWith_branch_unbound (hcond.trans hc), runWith_branch_unbound hc]
    | some n =>
      rw [runWith_branch (hcond.trans hc), runWith_branch hc]
      split
      · exact ihe _ _ _ _ h
      · exact ihr _ _ _ _ h
  | run k rest ih =>
    intro env env' ds s h
    have hexec : (objAt env k).map InstrObj.exec = (objAt env' k).map InstrObj.exec := by
      rw [← objAt_map_hidden hf _ (fun _ _ => rfl) env, h, objAt_map_hidden hf _ (fun _ _ => rfl) env']
    cases ho' : objAt env' k with
    | none =>
      have ho : objAt env k = none := by simpa [ho'] using hexec
      rw [runWith_run_unbound ho, runWith_run_unbound ho']
    | some o' =>
      obtain ⟨o, ho, hoo⟩ : ∃ o, objAt env k = some o ∧ o.exec = o'.exec := by simpa [ho'] using hexec
      cases hr : nested o'.exec ds s with
      | returned trace req es t =>
        rw [runWith_run_returned ho (hoo ▸ hr), runWith_run_returned ho' hr]
        exact ih _ _ _ _ (append_same _ h)
      | raised e es t => rw [runWith_run_raised ho (hoo ▸ hr), runWith_run_raised ho' hr]
      | stopped a => rw [runWith_run_stopped ho (hoo ▸ hr), runWith_run_stopped ho' hr]

/-- The cycle count of a fetched object has no effect on a run (60_exceptions.md R321). -/
theorem runWith_of_map_hideCycles_eq {nested : Prog → List Diag → State → RunEnd} (p : Prog) {env env' : List Value}
    (ds : List Diag) (s : State) (h : env.map hideCycles = env'.map hideCycles) :
    runWith nested p env ds s = runWith nested p env' ds s := by
  refine runWith_of_map_hidden_eq (g := id) onlyHides_hideCycles
    (fun trace next env env' ds s h => ?_) p env env' ds s h
  have ht : evalTrace env trace = evalTrace env' trace := by
    rw [← evalTrace_map_hideCycles env, h, evalTrace_map_hideCycles env']
  have hn : evalNext env next = evalNext env' next := by
    rw [← evalNext_map_hidden onlyHides_hideCycles env, h, evalNext_map_hidden onlyHides_hideCycles env']
  simp only [runWith, evalDone, ht, hn]

/-- The trace string of a nested run has no effect on a run but on the trace string returned (60_exceptions.md R324). -/
theorem endWithoutTrace_of_map_hideTrace_eq {nested : Prog → List Diag → State → RunEnd} (p : Prog)
    {env env' : List Value} (ds : List Diag) (s : State) (h : env.map hideTrace = env'.map hideTrace) :
    endWithoutTrace (runWith nested p env ds s) = endWithoutTrace (runWith nested p env' ds s) := by
  refine runWith_of_map_hidden_eq onlyHides_hideTrace (fun trace next env env' ds s h => ?_) p env env' ds s h
  have ht : (evalTrace env trace).isSome = (evalTrace env' trace).isSome := by
    rw [← isSome_evalTrace_map_hidden onlyHides_hideTrace env, h, isSome_evalTrace_map_hidden onlyHides_hideTrace env']
  have hn : evalNext env next = evalNext env' next := by
    rw [← evalNext_map_hidden onlyHides_hideTrace env, h, evalNext_map_hidden onlyHides_hideTrace env']
  cases hx : evalNext env' next with
  | none => rw [runWith_done_unbound (.inr (hn.trans hx)), runWith_done_unbound (.inr hx)]
  | some req =>
    cases ht' : evalTrace env' trace with
    | none =>
      have htn : evalTrace env trace = none := by simpa [ht'] using ht
      rw [runWith_done_unbound (.inl htn), runWith_done_unbound (.inl ht')]
    | some str' =>
      obtain ⟨str, hts⟩ : ∃ str, evalTrace env trace = some str := Option.isSome_iff_exists.mp (by rw [ht, ht']; rfl)
      rw [runWith_done hts (hn.trans hx), runWith_done ht' hx]
      rfl

/-- An operation that may be issued is served by its meaning (00_scope.md R12). -/
theorem serve_issue_of_issuable {r : Request} {i : Instr} (s : State) (h : decode r = .ok i) (hi : i.issuable = true) :
    serve issue r s = exec i s := by
  rw [serve_of_decode_ok s h, issue_eq_exec i s hi]

/-- Settles O42: the rules of a run, one per form of program, and that a run looks at its results only through the
expressions, which see no cycle count and no trace string. -/
theorem operationsRunInOrder : Obligations.OperationsRunInOrder := by
  intro depth rest env ds s
  refine ⟨fun op args vals i hv hd => ⟨fun t hi ht => ?_, fun hi => ?_⟩, fun c els n hc => ?_,
    fun trace next str req ht hn => ?_, fun k o hk => ?_, fun env' h => ?_, fun env' h => ?_, bindsResults,
    bindsNestedRun, computes env, returns env, fun _ _ => rfl⟩
  · rw [runProg_eq_runWith]
    have hs := (serve_issue_of_issuable s hd hi).trans ht
    exact ⟨runWith_call_result hv hs, fun e => runWith_call_error hv hs⟩
  · rw [runProg_eq_runWith]
    exact runWith_call_refused hv (serve_issue_of_not_issuable s hd hi)
  · rw [runProg_eq_runWith]
    exact runWith_branch hc
  · rw [runProg_eq_runWith]
    exact runWith_done ht hn
  · have ho := objAt_of_obj hk
    rw [runProg_eq_runWith 0, runProg_eq_runWith (depth + 1)]
    exact ⟨fun _ _ _ _ hr => runWith_run_returned ho hr, fun _ _ _ hr => runWith_run_raised ho hr,
      fun _ hr => runWith_run_stopped ho hr, runWith_run_stopped ho rfl⟩
  · rw [runProg_eq_runWith]
    exact runWith_of_map_hideCycles_eq rest ds s h
  · rw [runProg_eq_runWith]
    exact endWithoutTrace_of_map_hideTrace_eq rest ds s h

end Sys2Proof.Machine
end

section
/-! PROOFS. What each operation keeps of the state (10_state.md R42), said once: `Preserves` for every operation but STEP
and RESET, `Preserves` after a move of the pc inside IMEM for STEP; and therefore which operations write the pc and the
stop address, and that none writes the inputs (R27, R28, R34). -/

open Sys2Proof.Claims

namespace Sys2Proof.Machine

section
variable {P Q : State → Prop} {a : Answer}

theorem Ensures.of_next {t : State} (h : Ensures P a) (ht : a = .next t) : P t := (ensures_iff a).mp h t ht

theorem Ensures.imp (h : Ensures P a) (hPQ : ∀ t, P t → Q t) : Ensures Q a :=
  (ensures_iff a).mpr fun t ht => hPQ t (h.of_next ht)

end

/-! ### The relation of a state to the one before it -/

/-- The form of a breakpoint table: rising addresses, counters between 1 and their required count (10_state.md R42). -/
def BpForm (m : List (Nat × BpEntry)) : Prop := MapSorted m ∧ ∀ p ∈ m, 1 ≤ p.2.counter ∧ p.2.counter ≤ p.2.required

/-- The form of a histogram: rising mnemonics, positive counts (10_state.md R42). -/
def HistForm (m : List (String × Nat)) : Prop := MapSorted m ∧ ∀ p ∈ m, 1 ≤ p.2

/-- At most one force-break condition is in use (10_state.md R42). -/
def ForceBreak.OneCondition (f : ForceBreak) : Prop := ¬(f.useCall = true ∧ f.useLoop = true)

/-- What every operation but STEP and RESET leaves as it is, and the forms it keeps: `Kept` with the debug triggers and
the histogram no longer the same, but in their forms. -/
structure Preserves (s t : State) : Prop where
  config : t.config = s.config
  params : t.params = s.params
  pc : t.pc = s.pc
  stopAddr : t.stopAddr = s.stopAddr
  driver : t.driver = s.driver
  run : t.run = s.run
  rnd : t.sp.rnd = s.sp.rnd
  loopDepth : s.ls.length ≤ stackDepth → t.ls.length ≤ stackDepth
  callDepth : s.cs.length ≤ stackDepth → t.cs.length ≤ stackDepth
  memory : (s.dmem.wf ∧ ∀ c ∈ s.dmem, c.1 < dmemBytes) → (t.dmem.wf ∧ ∀ c ∈ t.dmem, c.1 < dmemBytes)
  fb : s.fb.OneCondition → t.fb.OneCondition
  bp : BpForm s.bp → BpForm t.bp
  hist : HistForm s.hist → HistForm t.hist

theorem Kept.preserves {s t : State} (h : Kept s t) : Preserves s t where
  config := h.config
  params := h.params
  pc := h.pc
  stopAddr := h.stopAddr
  driver := h.driver
  run := h.run
  rnd := h.rnd
  loopDepth := h.loopDepth
  callDepth := h.callDepth
  memory := h.memory
  fb := fun k => h.fb ▸ k
  bp := fun k => h.bp ▸ k
  hist := fun k => h.hist ▸ k

theorem Preserves.refl (s : State) : Preserves s s := (Kept.refl s).preserves

theorem Preserves.trans {s t u : State} (h : Preserves s t) (k : Preserves t u) : Preserves s u where
  config := k.config.trans h.config
  params := k.params.trans h.params
  pc := k.pc.trans h.pc
  stopAddr := k.stopAddr.trans h.stopAddr
  driver := k.driver.trans h.driver
  run := k.run.trans h.run
  rnd := k.rnd.trans h.rnd
  loopDepth := k.loopDepth ∘ h.loopDepth
  callDepth := k.callDepth ∘ h.callDepth
  memory := k.memory ∘ h.memory
  fb := k.fb ∘ h.fb
  bp := k.bp ∘ h.bp
  hist := k.hist ∘ h.hist

theorem Preserves.setResponse {s t : State} (h : Preserves s t) (p : Response) : Preserves s (t.setResponse p) :=
  h.trans ((Kept.refl t).setResponse p).preserves

theorem preserves_setFb (s : State) {f : ForceBreak} (h : s.fb.OneCondition → f.OneCondition) :
    Preserves s (s.setFb f) :=
  { Preserves.refl s with fb := h }

theorem preserves_setBp (s : State) {m : List (Nat × BpEntry)} (h : BpForm s.bp → BpForm m) : Preserves s (s.setBp m) :=
  { Preserves.refl s with bp := h }

theorem preserves_setHist (s : State) {m : List (String × Nat)} (h : HistForm s.hist → HistForm m) :
    Preserves s (s.setHist m) :=
  { Preserves.refl s with hist := h }

/-! ### The breakpoint table and the histogram (46_debug_triggers.md R240, R241, 47_step_engine.md R264) -/

theorem BpForm.mapPut {m : List (Nat × BpEntry)} (h : BpForm m) (a : Nat) {e : BpEntry} (h1 : 1 ≤ e.counter)
    (h2 : e.counter ≤ e.required) : BpForm (mapPut a e m) := by
  refine ⟨mapPut_sorted_nat a e h.1, fun p hp => ?_⟩
  obtain rfl | hp := mem_mapPut hp
  · exact ⟨h1, h2⟩
  · exact h.2 p hp

theorem BpForm.mapErase {m : List (Nat × BpEntry)} (h : BpForm m) (a : Nat) : BpForm (mapErase a m) :=
  ⟨mapErase_sorted a h.1, fun p hp => h.2 p (mem_mapErase hp)⟩

theorem HistForm.mapPut {m : List (String × Nat)} (h : HistForm m) (name : String) {n : Nat} (hn : 1 ≤ n) :
    HistForm (mapPut name n m) := by
  refine ⟨mapPut_sorted_string name n h.1, fun p hp => ?_⟩
  obtain rfl | hp := mem_mapPut hp
  · exact hn
  · exact h.2 p hp

theorem evalBp_preserves (addr : Nat) (s : State) : Preserves s (evalBp addr s).2 := by
  unfold evalBp
  split
  · exact Preserves.refl s
  · next e he =>
    split
    · refine preserves_setBp s fun h => h.mapPut addr le_rfl ?_
      obtain ⟨hpos, hle⟩ := h.2 _ (mem_of_mapGet he)
      exact hpos.trans hle
    · next hne =>
      refine preserves_setBp s fun h => h.mapPut addr (Nat.le_add_left 1 _) ?_
      obtain ⟨-, hle⟩ := h.2 _ (mem_of_mapGet he)
      exact Nat.lt_of_le_of_ne hle hne

theorem evalFb_preserves (s : State) : Preserves s (evalFb s).2 := by
  unfold evalFb
  split
  · exact preserves_setFb s id
  · exact Preserves.refl s

theorem armedBy_oneCondition {c : FbCond} {f : ForceBreak} (h : armedBy c = some f) : f.OneCondition := by
  cases c <;> cases h <;> simp [ForceBreak.OneCondition]

theorem evalTriggers_preserves (s : State) : Preserves s (evalTriggers s).2 :=
  (evalFb_preserves s).trans (evalBp_preserves _ _)

theorem countMnemonic_preserves (name : String) (s : State) : Preserves s (countMnemonic name s) :=
  preserves_setHist s fun h => h.mapPut name (Nat.le_add_left 1 _)

theorem execBpToggle_preserves (addr passes : Nat) (s : State) : Ensures (Preserves s) (execBpToggle addr passes s) := by
  unfold execBpToggle
  split
  · exact ensures_answer (preserves_setBp s fun h => h.mapErase addr).setResponse
  · split
    · exact ensures_raise (Preserves.refl s).setResponse
    · next hp =>
      have hbp : BpForm s.bp → BpForm (mapPut addr ⟨passes, 1⟩ s.bp) := fun h =>
        h.mapPut addr le_rfl (Nat.pos_of_ne_zero hp)
      exact ensures_answer (preserves_setBp s hbp).setResponse

theorem execFbArm_preserves (cond : FbCond) (s : State) : Ensures (Preserves s) (execFbArm cond s) := by
  unfold execFbArm
  split
  · next f hf => exact ensures_answer (preserves_setFb s fun _ => armedBy_oneCondition hf).setResponse
  · exact ensures_raise (Preserves.refl s).setResponse

theorem execClearRegs_preserves (s : State) : Ensures (Preserves s) (execClearRegs s) :=
  ensures_answer fun _ => { Preserves.refl s with }

/-- Every operation but STEP and RESET: those that an instruction may issue by `issue_kept`, the others one by one. -/
theorem exec_preserves (i : Instr) (s : State) (hs : i ≠ .step) (hr : i ≠ .reset) :
    Ensures (Preserves s) (exec i s) := by
  cases hi : i.issuable with
  | true =>
    rw [← issue_eq_exec i s hi]
    exact (issue_kept i s).imp fun _ => Kept.preserves
  | false =>
    cases i
    case bpToggle addr passes => exact execBpToggle_preserves addr passes s
    case bpEval addr => exact ensures_answer (evalBp_preserves addr s).setResponse
    case fbArm cond => exact execFbArm_preserves cond s
    case fbEval => exact ensures_answer (evalFb_preserves s).setResponse
    case clearRegs => exact execClearRegs_preserves s
    case step => exact absurd rfl hs
    case reset => exact absurd rfl hr
    all_goals cases hi

/-! ### STEP (47_step_engine.md R261) -/

/-- t is as `Preserves` says but for a pc that may have moved inside IMEM. -/
def Moves (s t : State) : Prop := ∃ n, (n = s.pc ∨ n < s.params.imem.length) ∧ Preserves (s.setPc n) t

theorem Preserves.moves {s t : State} (h : Preserves s t) : Moves s t := ⟨s.pc, .inl rfl, h⟩

theorem Preserves.setPc_left {s t : State} (h : Preserves s t) (n : Nat) : Preserves (s.setPc n) (t.setPc n) :=
  { h with pc := rfl }

theorem moves_setPc {s t : State} {n : Nat} (h : Preserves s t) (hn : n < t.params.imem.length) : Moves s (t.setPc n) :=
  ⟨n, .inr (h.params ▸ hn), h.setPc_left n⟩

theorem Moves.setResponse {s t : State} (h : Moves s t) (p : Response) : Moves s (t.setResponse p) := by
  obtain ⟨n, hn, h⟩ := h
  exact ⟨n, hn, h.setResponse p⟩

theorem loopTail_kept (req : Option Int) (s : State) : Kept s (loopTail req s).2 := by
  unfold loopTail
  split
  · exact Kept.refl s
  · next e he =>
    split
    · split
      · exact kept_decLoop he
      · exact kept_dropLoop s
    · exact Kept.refl s

theorem nextPc_moves {s t u : State} {req : Option Int} {cont : Bool} (h : Preserves s t)
    (hn : nextPc req t = .ok (cont, u)) : Moves s u := by
  unfold nextPc at hn
  split at hn
  · next k =>
    split at hn
    · next hk =>
      cases hn
      exact moves_setPc h (by omega)
    · cases hn
  · split at hn
    · next hk =>
      cases hn
      exact moves_setPc h hk
    · cases hn
      exact h.moves

theorem finishStep_moves {s t : State} (halt0 hit : Bool) (trace : String) (cycles : Nat) (ds : List Diag)
    (req : Option Int) (h : Preserves s t) : Ensures (Moves s) (finishStep halt0 hit trace cycles ds req t) := by
  have hl : Preserves s (loopTail req t).2 := h.trans (loopTail_kept req t).preserves
  unfold finishStep
  split
  · next cont u hu => exact ensures_answerWith (nextPc_moves hl hu).setResponse
  · exact ensures_raiseAfter hl.moves.setResponse

theorem runObj_moves {s t : State} (halt0 hit : Bool) (ins : InstrObj) (h : Preserves s t) :
    Ensures (Moves s) (runObj halt0 hit ins t) := by
  have hc := h.trans (countMnemonic_preserves ins.mnemonic t)
  have hrun := runIns_kept ins (countMnemonic ins.mnemonic t)
  unfold runObj
  cases hr : runIns ins (countMnemonic ins.mnemonic t) with
  | returned trace req ds u =>
    rw [hr] at hrun
    exact finishStep_moves _ _ _ _ _ _ (hc.trans (Kept.preserves hrun))
  | raised e ds u =>
    rw [hr] at hrun
    exact ensures_raiseAfter (hc.trans (Kept.preserves hrun)).moves.setResponse
  | stopped a =>
    obtain ⟨r, rfl⟩ := runIns_stopsRefused _ _ _ hr
    trivial

/-- STEP, whether it returns, ends in an error or is refused. -/
theorem execStep_moves (s : State) : Ensures (Moves s) (execStep s) := by
  have h := evalTriggers_preserves s
  unfold execStep
  split
  · exact runObj_moves _ _ _ h
  · exact ensures_raise h.moves.setResponse

/-! ### What moves the pc and what writes the inputs (10_state.md R27, R28, R34) -/

/-- Settles O55: RESET by its definition, STEP by `execStep_moves` and every other operation by `exec_preserves`. -/
theorem onlyStepAndResetMoveThePc : Obligations.OnlyStepAndResetMoveThePc := by
  intro i s t ht
  by_cases hr : i = .reset
  · subst hr
    cases ht
    exact ⟨rfl, rfl, rfl, absurd rfl, absurd rfl⟩
  by_cases hs : i = .step
  · subst hs
    obtain ⟨n, -, h⟩ := (execStep_moves s).of_next ht
    exact ⟨h.params, h.config, h.driver, fun _ => ⟨h.stopAddr, h.run⟩, fun _ => absurd rfl⟩
  · have h := (exec_preserves i s hs hr).of_next ht
    exact ⟨h.params, h.config, h.driver, fun _ => ⟨h.stopAddr, h.run⟩, fun _ _ => h.pc⟩

end Sys2Proof.Machine
end

section
/-! PROOFS. Construction makes the reset table (10_state.md R41, 70_reset_and_hazards.md R341), and the invariants of
10_state.md R42 hold of it and are kept by every step of the machine. -/

open Sys2Proof.Claims

namespace Sys2Proof.Machine

/-! ### Construction (70_reset_and_hazards.md R341) -/

theorem initCells_wf {vs : List Nat} {a : Nat} {m : Memory} (h : m.wf) : (initCells vs a m).wf := by
  induction vs generalizing a m with
  | nil => exact h
  | cons v vs ih => exact ih (Memory.writeBytes_wf _ _ _ _ h)

/-- Every address listed after the cells from a on are written was listed or lies in one of them. -/
theorem mem_initCells {vs : List Nat} {a : Nat} {m : Memory} {c : Host.Cell} (h : c ∈ initCells vs a m) :
    c.1 < 32 * (a + vs.length) ∨ c ∈ m := by
  induction vs generalizing a m with
  | nil => exact .inr h
  | cons v vs ih =>
    rw [List.length_cons]
    obtain h | h := ih h
    · left; omega
    · obtain h | h := Memory.mem_writeBytes h
      · left; omega
      · exact .inr h

/-- A cell below the first one written is as before. -/
theorem readBytes_initCells_below {vs : List Nat} {a b : Nat} {m : Memory} (h : m.wf) (hb : b < a) :
    (initCells vs a m).readBytes (32 * b) 32 = m.readBytes (32 * b) 32 := by
  induction vs generalizing a m with
  | nil => rfl
  | cons v vs ih =>
    rw [initCells, ih (Memory.writeBytes_wf _ _ _ _ h) (by omega),
      Memory.readBytes_writeBytes_outside _ _ _ _ _ _ h (by omega)]

/-- Cell a + j holds the j-th value written, in the cell's width, or what it held when there is none. -/
theorem readBytes_initCells {vs : List Nat} {a j : Nat} {m : Memory} (h : m.wf) :
    (initCells vs a m).readBytes (32 * (a + j)) 32 =
      (vs[j]?.map (· % 2 ^ 256)).getD (m.readBytes (32 * (a + j)) 32) := by
  induction vs generalizing a j m with
  | nil => rfl
  | cons v vs ih =>
    have hw := Memory.writeBytes_wf m (32 * a) 32 v h
    cases j with
    | zero =>
      simp only [Nat.add_zero]
      rw [initCells, readBytes_initCells_below hw (by omega), Memory.readBytes_writeBytes _ _ _ _ h]
      simp
    | succ j =>
      rw [initCells, show a + (j + 1) = a + 1 + j by omega, ih hw,
        Memory.readBytes_writeBytes_outside _ _ _ _ _ _ h (by omega), List.getElem?_cons_succ]

theorem Memory.readBytes_nil (a n : Nat) : Memory.readBytes [] a n = 0 := by
  induction n generalizing a with
  | zero => rfl
  | succ n ih => rw [Memory.readBytes, ih]; rfl

theorem Memory.wf_nil : Memory.wf [] := ⟨List.Pairwise.nil, fun _ hc => nomatch hc⟩

/-- Each cell of DMEM holds its element of DMEM_INIT, and the cells after the last hold 0 (10_state.md R41). -/
theorem machineOf_readCell (c : Config) (p : Params) (a : Nat) :
    (machineOf c p).readCell a = BitVec.ofNat 256 (p.dmemInit.getD a 0) := by
  have h := readBytes_initCells (vs := p.dmemInit) (a := 0) (j := a) Memory.wf_nil
  rw [Nat.zero_add, Memory.readBytes_nil] at h
  apply BitVec.eq_of_toNat_eq
  rw [State.readCell, show (machineOf c p).dmem = initCells p.dmemInit 0 [] from rfl, h, List.getD_eq_getElem?_getD]
  cases p.dmemInit[a]? <;> simp

theorem machineOf_dinit (c : Config) (p : Params) {a : Nat} (ha : a < 128) :
    (machineOf c p).dinit.getLsbD a = decide (a < p.dmemInit.length) := by
  rw [show (machineOf c p).dinit = BitVec.ofNat 128 (2 ^ p.dmemInit.length - 1) from rfl, BitVec.getLsbD_ofNat,
    Nat.testBit_two_pow_sub_one, decide_eq_true ha, Bool.true_and]

theorem bpForm_nil : BpForm [] := ⟨List.Pairwise.nil, fun _ hp => nomatch hp⟩

theorem bpForm_foldl {l : List Nat} {m : List (Nat × BpEntry)} (h : BpForm m) :
    BpForm (l.foldl (fun m a => mapPut a ⟨1, 1⟩ m) m) := by
  induction l generalizing m with
  | nil => exact h
  | cons a l ih => exact ih (h.mapPut a (Nat.le_refl 1) (Nat.le_refl 1))

theorem mapGet_foldl_mapPut {l : List Nat} {e : BpEntry} {m : List (Nat × BpEntry)} (a : Nat) :
    mapGet a (l.foldl (fun m b => mapPut b e m) m) = if a ∈ l then some e else mapGet a m := by
  induction l generalizing m with
  | nil => simp
  | cons b l ih =>
    rw [List.foldl_cons, ih, mapGet_mapPut]
    by_cases ha : a ∈ l
    · simp [ha]
    · simp [ha, eq_comm]

/-! ### The invariants (10_state.md R42) -/

theorem Params.startPc_lt_of_valid {p : Params} (h : p.valid = true) : p.startPc < p.imem.length := by
  simp only [Params.valid, Bool.and_eq_true, decide_eq_true_eq] at h
  tauto

theorem Params.dmemInit_le_of_valid {p : Params} (h : p.valid = true) : p.dmemInit.length ≤ dmemDepth := by
  simp only [Params.valid, Bool.and_eq_true, decide_eq_true_eq] at h
  tauto

/-- The machine that construction makes meets the invariants when DMEM_INIT fits in DMEM. -/
theorem machineOf_inv (c : Config) (p : Params) (h : p.dmemInit.length ≤ dmemDepth) : (machineOf c p).Inv where
  memWf := initCells_wf Memory.wf_nil
  memBounded := fun c hc => by
    obtain hc | hc := mem_initCells hc
    · unfold dmemDepth at h; unfold dmemBytes; omega
    · cases hc
  callDepth := Nat.zero_le _
  loopDepth := Nat.zero_le _
  rndConstant := rfl
  oneCondition := fun h => nomatch h.1
  bpSorted := (bpForm_foldl bpForm_nil).1
  bpCounters := (bpForm_foldl bpForm_nil).2
  histSorted := List.Pairwise.nil
  histPositive := fun _ hp => nomatch hp
  pcInRange := Params.startPc_lt_of_valid
  initFits := h

/-- What an operation preserves is enough for the invariants. -/
theorem State.Inv.of_preserves {s t : State} (hs : s.Inv) (h : Preserves s t) : t.Inv where
  memWf := (h.memory ⟨hs.memWf, hs.memBounded⟩).1
  memBounded := (h.memory ⟨hs.memWf, hs.memBounded⟩).2
  callDepth := h.callDepth hs.callDepth
  loopDepth := h.loopDepth hs.loopDepth
  rndConstant := h.rnd.trans hs.rndConstant
  oneCondition := h.fb hs.oneCondition
  bpSorted := (h.bp ⟨hs.bpSorted, hs.bpCounters⟩).1
  bpCounters := (h.bp ⟨hs.bpSorted, hs.bpCounters⟩).2
  histSorted := (h.hist ⟨hs.histSorted, hs.histPositive⟩).1
  histPositive := (h.hist ⟨hs.histSorted, hs.histPositive⟩).2
  pcInRange := by
    rw [h.params, h.pc]
    exact hs.pcInRange
  initFits := by
    rw [h.params]
    exact hs.initFits

/-- STEP keeps the invariants: it moves the pc only inside IMEM. -/
theorem State.Inv.of_moves {s t : State} (hs : s.Inv) (h : Moves s t) : t.Inv := by
  obtain ⟨n, hn, h⟩ := h
  have hm : (s.setPc n).Inv :=
    { hs with
      pcInRange := fun hv => by
        obtain rfl | hn := hn
        · exact hs.pcInRange hv
        · exact hn }
  exact hm.of_preserves h

theorem State.Inv.setDriver {s : State} (h : s.Inv) (q : List DriverCall) : (s.setDriver q).Inv := { h with }

theorem State.Inv.setRun {s : State} (h : s.Inv) (r : RunRecord) : (s.setRun r).Inv := { h with }

theorem State.Inv.setResponse {s : State} (h : s.Inv) (p : Response) : (s.setResponse p).Inv := { h with }

/-- RESET keeps the invariants: its breakpoints and its histogram are the old ones, the rest is construction's
(70_reset_and_hazards.md R343). -/
theorem execReset_inv {s : State} (h : s.Inv) : Ensures State.Inv (execReset s) :=
  ensures_answer fun _ =>
    { machineOf_inv s.config s.params h.initFits with
      bpSorted := h.bpSorted
      bpCounters := h.bpCounters
      histSorted := h.histSorted
      histPositive := h.histPositive }

/-- Every operation keeps the invariants, error or not. -/
theorem exec_inv (i : Instr) {s : State} (h : s.Inv) : Ensures State.Inv (exec i s) := by
  by_cases hr : i = .reset
  · subst hr
    exact execReset_inv h
  by_cases hs : i = .step
  · subst hs
    exact (execStep_moves s).imp fun _ => h.of_moves
  · exact (exec_preserves i s hs hr).imp fun _ => h.of_preserves

/-- An operation called by the driver keeps the invariants: the record of the run is in none of them. -/
theorem callOp_inv (i : Instr) {s : State} (h : s.Inv) : Ensures State.Inv (callOp exec i s) :=
  ensures_callOp (exec_inv i h) fun _ r ht => ht.setRun r

theorem serveLabel_inv (label : String) (passes : Nat) {s : State} (h : s.Inv) :
    Ensures State.Inv (serveLabel exec label passes s) := by
  unfold serveLabel
  split
  · exact exec_inv _ h
  · exact ensures_raise h.setResponse

theorem driverIdle_inv {s : State} (h : s.Inv) : Ensures State.Inv (driverIdle (callOp exec) s) := by
  unfold driverIdle
  split
  · trivial
  · split
    · exact h
    · exact callOp_inv .step h

/-- Every step of the machine keeps the invariants, whichever call of the driver it serves. -/
theorem step_inv {s : State} (h : s.Inv) : Ensures State.Inv (step s) := by
  unfold step
  split
  · next r rest _ => exact ensures_serve (h.setDriver rest).setResponse fun i _ => callOp_inv i (h.setDriver rest)
  · next label passes rest _ => exact serveLabel_inv label passes (h.setDriver rest)
  · exact driverIdle_inv h

/-- Settles O52: an operation leaves each invariant's fields alone or keeps their forms, whatever an instruction object
issues, and the driver's own fields are in no invariant. -/
theorem everyStepKeepsInvariants : Obligations.EveryStepKeepsInvariants :=
  fun _ _ hs ht => (step_inv hs).of_next ht

/-- Settles O51: the reset state is the machine made of the inputs with no program. -/
theorem resetMeetsInvariants : Obligations.ResetMeetsInvariants :=
  machineOf_inv Config.default Params.unloaded (Nat.zero_le _)

theorem construct_eq_some {c : Config} {p : Params} {s : State} (h : construct c p = some s) :
    p.valid = true ∧ s = machineOf c p := by
  unfold construct at h
  split at h
  · next hv => exact ⟨(Bool.and_eq_true_iff.mp hv).2, (Option.some.inj h).symm⟩
  · cases h

/-- Settles O50: memory and breakpoints by their folds over DMEM_INIT and BP_INIT, every other field by the
definition. -/
theorem constructionGivesTheResetTable : Obligations.ConstructionGivesTheResetTable := by
  intro c p s hs
  obtain ⟨hv, rfl⟩ := construct_eq_some hs
  refine ⟨rfl, rfl, rfl, fun stop h => ?_, fun h => ?_,
    fun a ha => ⟨machineOf_readCell c p a, machineOf_dinit c p ha⟩, fun a => mapGet_foldl_mapPut a, fun n => ⟨?_, ?_⟩,
    fun k => ?_, rfl, rfl, rfl, rfl, rfl, rfl, rfl, rfl, machineOf_inv c p (Params.dmemInit_le_of_valid hv)⟩
  · simp [machineOf, Params.stop, h]
  · simp [machineOf, Params.stop, h]
  · exact Vector.getElem_replicate _
  · exact Vector.getElem_replicate _
  · exact Vector.getElem_replicate _

end Sys2Proof.Machine
end

section
/-! PROOFS. x8 to x31 and the limbs of rfp, dmp and lc are one storage (10_state.md R25). -/

open Sys2Proof.Claims

namespace Sys2Proof.Machine

/-- A read of x8 to x31 is a read of a limb (42_gpr_file.md R161). -/
theorem State.readGpr_of_ge (s : State) {i : Nat} (h : 8 ≤ i) (hi : i ≤ 31) :
    s.readGpr i = .ok (if i ≤ 15 then limb s.sp.rfp (i - 8) else if i ≤ 23 then limb s.sp.dmp (i - 16)
      else limb s.sp.lc (i - 24), s) := by
  rw [State.readGpr, if_neg (by omega), if_neg (by omega), if_neg (by omega), dif_neg (by omega)]
  split
  · rfl
  · split <;> rfl

/-- A store to x8 to x31 is a store to a limb (42_gpr_file.md R162). -/
theorem State.storeGpr_of_ge (s : State) {i : Nat} (x : Limb) (h : 8 ≤ i) :
    s.storeGpr i x = .ok (s.setSp (
      if i ≤ 15 then { s.sp with rfp := withLimb s.sp.rfp (i - 8) x }
      else if i ≤ 23 then { s.sp with dmp := withLimb s.sp.dmp (i - 16) x }
      else { s.sp with lc := withLimb s.sp.lc (i - 24) x })) := by
  rw [State.storeGpr, if_neg (by omega), if_neg (by omega), dif_neg (by omega)]
  split
  · rfl
  · split <;> rfl

/-- The GPRs from `base` on are the limbs of the special register r, whose name code is c (10_state.md R25): what GPR k
past the base reads and what a store to it writes. -/
structure Aliases (c base : Nat) (r : SpecialReg) : Prop where
  resolves : resolve (.special c) = .ok (.special r)
  notRnd : r ≠ .rnd
  inRange : base ≤ 24
  reads : ∀ (s : State) {k : Nat}, k < 8 → s.readGpr (base + k) = .ok (limb (s.sp.get r) k, s)
  stores : ∀ (s : State) {k : Nat} (x : Limb), k < 8 →
    s.storeGpr (base + k) x = .ok (s.setSp (s.sp.set (withLimb (s.sp.get r) k x) r))

theorem aliases_rfp : Aliases 2 8 .rfp where
  resolves := rfl
  notRnd := by decide
  inRange := by decide
  reads s k hk := by
    rw [s.readGpr_of_ge (by omega) (by omega), if_pos (by omega), Nat.add_sub_cancel_left]
    rfl
  stores s k x hk := by
    rw [s.storeGpr_of_ge x (by omega), if_pos (by omega), Nat.add_sub_cancel_left]
    rfl

theorem aliases_dmp : Aliases 1 16 .dmp where
  resolves := rfl
  notRnd := by decide
  inRange := by decide
  reads s k hk := by
    rw [s.readGpr_of_ge (by omega) (by omega), if_neg (by omega), if_pos (by omega), Nat.add_sub_cancel_left]
    rfl
  stores s k x hk := by
    rw [s.storeGpr_of_ge x (by omega), if_neg (by omega), if_pos (by omega), Nat.add_sub_cancel_left]
    rfl

theorem aliases_lc : Aliases 3 24 .lc where
  resolves := rfl
  notRnd := by decide
  inRange := by decide
  reads s k hk := by
    rw [s.readGpr_of_ge (by omega) (by omega), if_neg (by omega), if_neg (by omega), Nat.add_sub_cancel_left]
    rfl
  stores s k x hk := by
    rw [s.storeGpr_of_ge x (by omega), if_neg (by omega), if_neg (by omega), Nat.add_sub_cancel_left]
    rfl

theorem aliases_of_mem {c base : Nat} (h : (c, base) ∈ [(2, 8), (1, 16), (3, 24)]) : ∃ r, Aliases c base r := by
  simp only [List.mem_cons, Prod.mk.injEq, List.not_mem_nil, or_false] at h
  obtain ⟨rfl, rfl⟩ | ⟨rfl, rfl⟩ | ⟨rfl, rfl⟩ := h
  · exact ⟨_, aliases_rfp⟩
  · exact ⟨_, aliases_dmp⟩
  · exact ⟨_, aliases_lc⟩

section
variable {c base k : Nat} {r : SpecialReg}

/-- The limb read of a special register, which has no validity bits (41_register_file.md R133, R135). -/
theorem exec_rfGetLimb_special (s : State) (hr : resolve (.special c) = .ok (.special r)) (hk : k < 8) :
    exec (.rfGetLimb (.special c) k) s = answer (.limb (limb (s.sp.get r) k)) s := by
  simp only [exec, execRfGetLimb, readPart, withTarget, hr, requireIndex_of_lt s _ hk]
  rfl

/-- The limb write of a special register other than `rnd` (41_register_file.md R136). -/
theorem exec_rfSetLimb_special (s : State) (x : Nat) (hr : resolve (.special c) = .ok (.special r)) (hn : r ≠ .rnd)
    (hk : k < 8) :
    exec (.rfSetLimb (.special c) k x) s = requireRange (2 ^ 32) x s
      (answer .none (s.setSp (s.sp.set (withLimb (s.sp.get r) k (BitVec.ofNat 32 x)) r))) := by
  have hi : (Target.special r).isRnd = false := decide_eq_false fun h => hn (Target.special.inj h)
  simp only [exec, execRfSetLimb, writePart, withTarget, hr, requireIndex_of_lt s _ hk, hi, rndGuard_false]
  rfl

theorem Aliases.exec_gprGet (h : Aliases c base r) (s : State) (hk : k < 8) :
    exec (.gprGet (base + k)) s = answer (.limb (limb (s.sp.get r) k)) s := by
  simp only [exec, execGprGet, h.reads s hk]
  rfl

theorem Aliases.writeGpr (h : Aliases c base r) (s : State) {x : Nat} (hk : k < 8) (hx : x < 2 ^ 32) :
    s.writeGpr (base + k) x = .ok (s.setSp (s.sp.set (withLimb (s.sp.get r) k (BitVec.ofNat 32 x)) r)) := by
  have hb := h.inRange
  rw [State.writeGpr, if_neg (by omega), if_pos hx, h.stores s _ hk]

theorem Aliases.exec_gprSet (h : Aliases c base r) (s : State) (x : Nat) (hk : k < 8) :
    exec (.gprSet (base + k) x) s = exec (.rfSetLimb (.special c) k x) s := by
  have hb := h.inRange
  rw [exec_rfSetLimb_special s x h.resolves h.notRnd hk]
  by_cases hx : x < 2 ^ 32
  · rw [requireRange_of_lt s _ hx]
    simp only [exec, execGprSet, h.writeGpr s hk hx]
    rfl
  · rw [requireRange_of_ge s _ (Nat.le_of_not_lt hx)]
    simp only [exec, execGprSet, State.writeGpr, if_neg (show ¬ 31 < base + k by omega), if_neg hx]
    rfl

/-- An increment writes the limb plus n modulo 2^32 to the limb it read. -/
theorem Aliases.stepGpr (h : Aliases c base r) (s : State) (n : Nat) (hk : k < 8) :
    s.stepGpr (base + k) n =
      exec (.rfSetLimb (.special c) k (((limb (s.sp.get r) k).toNat + n) % 2 ^ 32)) s := by
  have hx : ((limb (s.sp.get r) k).toNat + n) % 2 ^ 32 < 2 ^ 32 := Nat.mod_lt _ (by decide)
  rw [exec_rfSetLimb_special s _ h.resolves h.notRnd hk, requireRange_of_lt s _ hx]
  simp only [State.stepGpr, h.reads s hk, h.writeGpr s hk hx]

end

theorem eq_of_answer_limb_eq_said {s : State} {x v : Limb}
    (h : answer (.limb x) s = .next (s.setResponse (said (.limb v)))) :
    x = v := by
  have hp : said (.limb x) = said (.limb v) := congrArg State.response (Host.Outcome.next.inj h)
  exact Result.limb.inj (congrArg Response.result hp)

/-- Settles O22: a GPR past a base and the limb of its special register are read and stored alike. -/
theorem gprAliasesOfSpecialLimbs : Obligations.GprAliasesOfSpecialLimbs := by
  intro s c base k x hc hk
  obtain ⟨r, h⟩ := aliases_of_mem hc
  refine ⟨?_, h.exec_gprSet s x hk, fun v hv => ?_⟩
  · rw [h.exec_gprGet s hk, exec_rfGetLimb_special s h.resolves hk]
  · rw [h.exec_gprGet s hk] at hv
    obtain rfl := eq_of_answer_limb_eq_said hv
    exact ⟨h.stepGpr s 1 hk, h.stepGpr s 32 hk⟩

end Sys2Proof.Machine
end

section
/-! PROOFS. Decoding undoes encoding (30_encoding.md R71 to R75), the unassigned selectors are rejected by name (R76),
and a step is exec of the decoded next request, with STEP's outcome in the driver's record (47_step_engine.md R260,
60_exceptions.md R312, 70_reset_and_hazards.md R352; log 1, log 2). -/

open Sys2Proof.Claims

namespace Sys2Proof

/-! ### Each field of a fixed width reads back what the encoder wrote (30_encoding.md R72, R73) -/

theorem u1Field_bitValue (b : Bool) (k : Bool → Decoded) : u1Field (bitValue b) k = k b := by
  cases b <;> rfl

theorem fixedField_of_lt {w v : Nat} (h : v < 2 ^ w) (k : Nat → Decoded) : fixedField w v k = k v := if_pos h

theorem u32Field_toNat (x : Limb) (k : Limb → Decoded) : u32Field x.toNat k = k x := by
  rw [u32Field, fixedField_of_lt x.isLt, BitVec.ofNat_toNat, BitVec.setWidth_eq]

/-! ### Each reader whose format has such a field reads back the operands (30_encoding.md R72) -/

section
variable (op : Nat)

theorem readW2C_bitValue (mk : Nat → Nat → Bool → Instr) (a b : Nat) (c : Bool) :
    readW2C op mk [a, b, bitValue c] = .ok (mk a b c) := by
  simp only [readW2C, u1Field_bitValue]

theorem readWHS_bitValue (mk : Nat → Nat → Bool → Nat → Instr) (a i : Nat) (u : Bool) (x : Nat) :
    readWHS op mk [a, i, bitValue u, x] = .ok (mk a i u x) := by
  simp only [readWHS, u1Field_bitValue]

theorem readFS_bitValue (mk : Nat → Bool → Instr) (f : Nat) (b : Bool) :
    readFS op mk [f, bitValue b] = .ok (mk f b) := by
  simp only [readFS, u1Field_bitValue]

theorem readRG_fields (mk : RegId → Instr) (id : RegId) : readRG op mk id.fields = .ok (mk id) := by
  cases id <;> rfl

theorem readRLG_fields (mk : RegId → Nat → Instr) (id : RegId) (i : Nat) :
    readRLG op mk (id.fields ++ [i]) = .ok (mk id i) := by
  cases id <;> rfl

theorem readRLS_fields (mk : RegId → Nat → Nat → Instr) (id : RegId) (i x : Nat) :
    readRLS op mk (id.fields ++ [i, x]) = .ok (mk id i x) := by
  cases id <;> rfl

theorem readRHG_fields (mk : RegId → Nat → Bool → Instr) (id : RegId) (i : Nat) (u : Bool) :
    readRHG op mk (id.fields ++ [i, bitValue u]) = .ok (mk id i u) := by
  cases id <;> cases u <;> rfl

theorem readRHS_fields (mk : RegId → Nat → Bool → Nat → Instr) (id : RegId) (i : Nat) (u : Bool) (x : Nat) :
    readRHS op mk (id.fields ++ [i, bitValue u, x]) = .ok (mk id i u x) := by
  cases id <;> cases u <;> rfl

/-- With the granularity written out, which the encoder always does (log 11). -/
theorem readRS_fields (mk : RegId → Nat → Gran → Instr) (id : RegId) (v : Nat) (g : Gran) :
    readRS op mk (id.fields ++ v :: g.fields) = .ok (mk id v g) := by
  cases g with
  | full | limb | unassigned => cases id <;> rfl
  | halfLimb i u => cases id <;> cases u <;> rfl

theorem readLP_toNat (mk : Limb → Limb → Limb → Instr) (c e s : Limb) :
    readLP op mk [c.toNat, e.toNat, s.toNat] = .ok (mk c e s) := by
  simp only [readLP, u32Field_toNat]

theorem readCP_toNat (mk : Limb → Instr) (a : Limb) : readCP op mk [a.toNat] = .ok (mk a) := by
  simp only [readCP, u32Field_toNat]

/-- The one reader that needs a well-formed operand: the depth of a force-break condition is a u5. -/
theorem readFA_fields (mk : FbCond → Instr) {c : FbCond} (h : c.wf = true) : readFA op mk c.fields = .ok (mk c) := by
  cases c with
  | none | unassigned => rfl
  | callDepth d | loopDepth d =>
    have hd : d < 2 ^ 5 := of_decide_eq_true h
    simp only [FbCond.fields, readFA, condField, fixedField_of_lt hd]

end

/-- Decoding the record of an operation gives it back: the operations with a field of a fixed width by the reader of
their format, the others directly, since they have only `nat` operands or none and the reader takes those as they
stand. -/
theorem decode_encode {i : Instr} (h : i.wf = true) : decode (encode i) = .ok i := by
  cases i
  case wwAdd a b c => exact readW2C_bitValue 0x00 .wwAdd a b c
  case wwSub a b c => exact readW2C_bitValue 0x01 .wwSub a b c
  case wwSetHLimb a i u x => exact readWHS_bitValue 0x0B .wwSetHLimb a i u x
  case rfGet id => exact readRG_fields 0x10 .rfGet id
  case rfSet id v g => exact readRS_fields 0x11 .rfSet id v g
  case rfGetLimb id i => exact readRLG_fields 0x12 .rfGetLimb id i
  case rfSetLimb id i x => exact readRLS_fields 0x13 .rfSetLimb id i x
  case rfGetHLimb id i u => exact readRHG_fields 0x14 .rfGetHLimb id i u
  case rfSetHLimb id i u x => exact readRHS_fields 0x15 .rfSetHLimb id i u x
  case rfGetHWord id k => exact readRLG_fields 0x16 .rfGetHWord id k
  case rfSetHWord id k x => exact readRLS_fields 0x17 .rfSetHWord id k x
  case rfGetQWord id q => exact readRLG_fields 0x18 .rfGetQWord id q
  case rfSetQWord id q x => exact readRLS_fields 0x19 .rfSetQWord id q x
  case flagSet f b => exact readFS_bitValue 0x31 .flagSet f b
  case loopPush c e s => exact readLP_toNat 0x50 .loopPush c e s
  case callPush a => exact readCP_toNat 0x55 .callPush a
  case fbArm c => exact readFA_fields 0x62 .fbArm h
  all_goals rfl

/-- Settles O57: each reader of a format undoes the encoder's fields. -/
theorem decodeOfEncode : Obligations.DecodeOfEncode := fun _ h => decode_encode h

/-- Settles O58: the decoder evaluated on each of the ten records. -/
theorem recordsOfTheMapDecode : Obligations.RecordsOfTheMapDecode := by
  unfold Obligations.RecordsOfTheMapDecode
  decide

/-! ### The unassigned selectors (30_encoding.md R76) -/

/-- No case of the selector map but the last, its 64th, is at an unassigned selector. -/
theorem decodeFields_of_unassigned {op : Nat} (h : Unassigned op) (fields : List Nat) :
    decodeFields op fields = .error (.unassignedSelector op) := by
  unfold Unassigned at h
  unfold decodeFields
  split
  case h_64 => rfl
  all_goals omega

end Sys2Proof

namespace Sys2Proof.Machine

theorem serve_of_unassignedSelector {run : Instr → State → Answer} {r : Request} {n : Nat} (s : State)
    (h : decode r = .error (.unassignedSelector n)) : serve run r s = raise (.invalidOperand (.number n)) s := by
  simp only [serve, h]

/-- Settles O59: the selector map has no case at the selector, and the request port answers that with the error. -/
theorem unassignedSelectorsRaise : Obligations.UnassignedSelectorsRaise := by
  intro s r rest hu hd
  rw [step_of_request hd, serve_of_unassignedSelector _ (decodeFields_of_unassigned hu r.fields)]
  rfl

/-! ### The next request -/

theorem callOp_step_refused {run : Instr → State → Answer} {s : State} {a : Refusal}
    (h : run .step s = .refused a) : callOp run .step s = .refused a := by
  simp only [callOp, h]

/-- A step that takes a request is the driver's call of the operation it decodes to. -/
theorem step_of_decoded_request {s : State} {r : Request} {rest : List DriverCall} {i : Instr}
    (hd : s.driver = .request r :: rest) (hi : decode r = .ok i) : step s = callOp exec i (s.setDriver rest) := by
  rw [step_of_request hd, serve_of_decode_ok _ hi]

/-! ### The driver with nothing queued (70_reset_and_hazards.md R352; log 2) -/

section
variable {s : State} (hd : s.driver = [])
include hd

theorem step_of_idle : step s = driverIdle (callOp exec) s := by
  simp only [step, hd]

theorem step_of_idle_faulted {e : Err} (hf : s.run.faulted = some e) : step s = .fault (.runFaulted e) := by
  simp only [step_of_idle hd, driverIdle, hf]

theorem step_of_idle_ended (hr : s.run = ⟨true, none⟩) : step s = .next s := by
  simp only [step_of_idle hd, driverIdle, hr, if_true]

theorem step_of_idle_running (hr : s.run = ⟨false, none⟩) : step s = callOp exec .step s := by
  simp only [step_of_idle hd, driverIdle, hr, Bool.false_eq_true, if_false]

end

/-! ### The driver's record (47_step_engine.md R260, 60_exceptions.md R312; log 2) -/

theorem State.runAfter_halted_iff (s : State) :
    s.runAfter.halted = true ↔ ∃ trace cycles hit, s.response.result = .stepDone false trace cycles hit := by
  unfold State.runAfter
  split
  · next trace cycles hit h => exact iff_of_true rfl ⟨trace, cycles, hit, h⟩
  · next h => exact iff_of_false Bool.false_ne_true fun ⟨trace, cycles, hit, he⟩ => h trace cycles hit he

theorem State.runAfter_faulted_of_some {s : State} {e : Err} (h : s.run.faulted = some e) :
    s.runAfter.faulted = some e := by
  simp only [State.runAfter, h, Option.some_or]

theorem State.runAfter_faulted_of_none {s : State} (h : s.run.faulted = none) :
    s.runAfter.faulted = s.response.err := by
  simp only [State.runAfter, h, Option.none_or]

/-- Settles O60: each way a step can go is the driver's call of an operation, the end or the abort of the run, and
the record is what `runAfter` writes. -/
theorem stepRunsTheDecodedRequest : Obligations.StepRunsTheDecodedRequest := by
  refine fun s => ⟨fun r rest i hd hi => ?_, fun hd hr => ?_, step_of_idle_ended, fun _ hd => step_of_idle_faulted hd,
    s.runAfter_halted_iff, fun _ => State.runAfter_faulted_of_some, State.runAfter_faulted_of_none⟩
  · rw [step_of_decoded_request hd hi]
    refine ⟨callOp_of_ne_step _, ?_, ?_⟩
    · rintro t rfl ht
      exact callOp_step_next ht
    · rintro a rfl ha
      exact callOp_step_refused ha
  · rw [step_of_idle_running hd hr]
    exact ⟨fun _ => callOp_step_next, fun _ => callOp_step_refused⟩

end Sys2Proof.Machine
end

section
/-! PROOFS. The wide-word ALU (40_wideword_alu.md): what each operation of family 0 answers when its checks pass, what
it answers when one fails, and that it reads and changes nothing of the state (R100). -/

open Sys2Proof.Claims

namespace Sys2Proof.Machine

/-! ### The checks: wide operands, then the index, then the width of the part (40_wideword_alu.md R100, R110 to R113) -/

section
variable {a b bound i limit x : Nat} (s : State)

theorem withWide_withWide_of_lt (ha : a < 2 ^ 256) (hb : b < 2 ^ 256) (go : Wide → Wide → Answer) :
    (withWide a s fun v => withWide b s (go v)) = go (BitVec.ofNat 256 a) (BitVec.ofNat 256 b) := by
  rw [withWide_of_lt ha, withWide_of_lt hb]

theorem withWide_withWide_of_ge (ha : a < 2 ^ 256) (hb : 2 ^ 256 ≤ b) (go : Wide → Wide → Answer) :
    (withWide a s fun v => withWide b s (go v)) = .next (s.setResponse (failed (.rangeError b))) := by
  rw [withWide_of_lt ha, withWide_of_ge hb, failed]

theorem withWide_requireIndex_of_lt (ha : a < 2 ^ 256) (hi : i < bound) (go : Wide → Answer) :
    (withWide a s fun v => requireIndex bound i s (go v)) = go (BitVec.ofNat 256 a) := by
  rw [withWide_of_lt ha, requireIndex_of_lt s _ hi]

theorem withWide_requireIndex_of_ge (ha : a < 2 ^ 256) (hi : bound ≤ i) (go : Wide → Answer) :
    (withWide a s fun v => requireIndex bound i s (go v)) = .next (s.setResponse (failed (.indexError i))) := by
  rw [withWide_of_lt ha, requireIndex_of_ge s _ hi, failed]

theorem withWide_requireRange_of_lt (ha : a < 2 ^ 256) (hi : i < bound) (hx : x < limit) (go : Wide → Answer) :
    (withWide a s fun v => requireIndex bound i s (requireRange limit x s (go v))) = go (BitVec.ofNat 256 a) := by
  rw [withWide_requireIndex_of_lt s ha hi, requireRange_of_lt s _ hx]

theorem withWide_requireRange_of_ge (ha : a < 2 ^ 256) (hi : i < bound) (hx : limit ≤ x) (go : Wide → Answer) :
    (withWide a s fun v => requireIndex bound i s (requireRange limit x s (go v))) =
      .next (s.setResponse (failed (.rangeError x))) := by
  rw [withWide_requireIndex_of_lt s ha hi, requireRange_of_ge s _ hx, failed]

end

/-- Settles O8: each clause is the check at its place in the order, the same for every operation of the clause. -/
theorem wideAluChecks : Obligations.WideAluChecks := by
  intro s a b i x c
  refine ⟨fun ha op hop => ?_, fun ha hb op hop => ?_, fun ha hi op hop => ?_,
    fun ha hi => ?_, fun ha hi hx => ?_, fun ha hi hx => ?_, fun ha hi hx => ?_⟩
  · fin_cases hop <;> rw [exec] <;> exact withWide_of_ge ha s _
  · fin_cases hop <;> rw [exec] <;> exact withWide_withWide_of_ge s ha hb _
  · fin_cases hop <;> rw [exec] <;> exact withWide_requireIndex_of_ge s ha hi _
  · rw [exec]
    exact withWide_requireIndex_of_ge s ha hi _
  all_goals
    rw [exec]
    exact withWide_requireRange_of_ge s ha hi hx _

/-! ### Purity (40_wideword_alu.md R100) -/

/-- The meaning answers every state with one and the same response, and changes nothing else. -/
def OnlyResponds (f : State → Answer) : Prop := ∃ p, ∀ s, f s = .next (s.setResponse p)

theorem onlyResponds_answer (r : Result) : OnlyResponds (answer r) := ⟨_, fun _ => rfl⟩

theorem onlyResponds_raise (e : Err) : OnlyResponds (raise e) := ⟨_, fun _ => rfl⟩

section
variable {go : State → Answer} (h : OnlyResponds go)
include h

theorem onlyResponds_requireIndex (bound i : Nat) : OnlyResponds fun s => requireIndex bound i s (go s) := by
  unfold requireIndex
  split
  · exact h
  · exact onlyResponds_raise _

theorem onlyResponds_requireRange (limit v : Nat) : OnlyResponds fun s => requireRange limit v s (go s) := by
  unfold requireRange
  split
  · exact h
  · exact onlyResponds_raise _

end

theorem onlyResponds_withWide {go : Wide → State → Answer} (a : Nat) (h : ∀ v, OnlyResponds (go v)) :
    OnlyResponds fun s => withWide a s fun v => go v s :=
  onlyResponds_requireRange (h _) _ _

/-- Settles O10: each operation is its checks and then an answer, and both only respond; the operations of the other
families have a selector of 0x10 or more. -/
theorem wideAluIsPure : Obligations.WideAluIsPure := by
  intro i h
  cases i
  case wwAdd | wwSub | wwCmp | wwAnd | wwOr | wwXor =>
    exact onlyResponds_withWide _ fun _ => onlyResponds_withWide _ fun _ => onlyResponds_answer _
  case wwNot | wwShl | wwShr => exact onlyResponds_withWide _ fun _ => onlyResponds_answer _
  case wwGetLimb => exact onlyResponds_withWide _ fun _ => onlyResponds_requireIndex (onlyResponds_answer _) _ _
  case wwSetLimb | wwSetHLimb | wwSetHWord =>
    exact onlyResponds_withWide _ fun _ =>
      onlyResponds_requireIndex (onlyResponds_requireRange (onlyResponds_answer _) _ _) _ _
  all_goals cases h

/-! ### Sums and differences of 257 bits (40_wideword_alu.md R101, R102) -/

theorem toNat_ofNat_of_lt {w a : Nat} (h : a < 2 ^ w) : (BitVec.ofNat w a).toNat = a := by
  rw [BitVec.toNat_ofNat, Nat.mod_eq_of_lt h]

theorem toNat_not_add_toNat (b : Bool) : (!b).toNat + b.toNat = 1 := by
  cases b <;> rfl

section
variable (r : Wide) (k : Bool)

/-- The carry is bit 256. -/
theorem decide_two_pow_le_word_add_carry : decide (2 ^ 256 ≤ r.toNat + 2 ^ 256 * k.toNat) = k := by
  cases k <;> simp [r.isLt]

/-- The borrow is the sign. -/
theorem decide_word_sub_borrow_neg : decide ((r.toNat : Int) - 2 ^ 256 * (k.toNat : Int) < 0) = k := by
  have hr := r.isLt
  cases k with
  | false => simp
  | true =>
    rw [decide_eq_true_iff, Bool.toNat_true]
    omega

theorem word_add_carry_lt : r.toNat + 2 ^ 256 * k.toNat < 2 ^ 257 := by
  have hr := r.isLt
  have hk := k.toNat_le
  omega

end

/-- A number below 2^257 is a word with a carry. -/
theorem exists_word_add_carry {n : Nat} (h : n < 2 ^ 257) :
    ∃ (r : Wide) (k : Bool), r.toNat + 2 ^ 256 * k.toNat = n := by
  refine ⟨BitVec.ofNat 256 n, decide (2 ^ 256 ≤ n), ?_⟩
  rw [BitVec.toNat_ofNat]
  by_cases hn : 2 ^ 256 ≤ n
  · rw [decide_eq_true hn, Bool.toNat_true]
    omega
  · rw [decide_eq_false hn, Bool.toNat_false]
    omega

/-- An integer from -2^256 to 2^256 - 1 is a word less a borrow: 2^256 more is a word with a carry, and the borrow is
the carry inverted. -/
theorem exists_word_sub_borrow {d : Int} (hl : -2 ^ 256 ≤ d) (hu : d < 2 ^ 256) :
    ∃ (r : Wide) (k : Bool), (r.toNat : Int) - 2 ^ 256 * (k.toNat : Int) = d := by
  obtain ⟨r, k, h⟩ := exists_word_add_carry (n := (d + 2 ^ 256).toNat) (by omega)
  have hk := toNat_not_add_toNat k
  exact ⟨r, !k, by omega⟩

theorem addWide_eq {a b r : Wide} {c k : Bool} (h : r.toNat + 2 ^ 256 * k.toNat = a.toNat + b.toNat + c.toNat) :
    addWide a b c = (r, k) := by
  rw [addWide, ← h, Prod.mk.injEq]
  refine ⟨BitVec.eq_of_toNat_eq ?_, decide_two_pow_le_word_add_carry r k⟩
  rw [BitVec.toNat_ofNat, Nat.add_mul_mod_self_left, Nat.mod_eq_of_lt r.isLt]

theorem subWide_eq {a b r : Wide} {c k : Bool}
    (h : (r.toNat : Int) - 2 ^ 256 * (k.toNat : Int) = (a.toNat : Int) - b.toNat - c.toNat) :
    subWide a b c = (r, k) := by
  have hr := r.isLt
  rw [subWide, ← h, Prod.mk.injEq]
  refine ⟨BitVec.eq_of_toNat_eq ?_, decide_word_sub_borrow_neg r k⟩
  rw [BitVec.toNat_ofInt]
  omega

section
variable {a b : Nat} {c k : Bool} {r : Wide} (s : State) (ha : a < 2 ^ 256) (hb : b < 2 ^ 256)
include ha hb

/-- WW.ADD answers the word and carry whose value is the sum. -/
theorem exec_wwAdd (h : r.toNat + 2 ^ 256 * k.toNat = a + b + c.toNat) :
    exec (.wwAdd a b c) s = .next (s.setResponse (said (.wideCarry r k))) := by
  have hp : addWide (BitVec.ofNat 256 a) (BitVec.ofNat 256 b) c = (r, k) :=
    addWide_eq (by rw [toNat_ofNat_of_lt ha, toNat_ofNat_of_lt hb, h])
  rw [exec, execWwAdd, withWide_withWide_of_lt s ha hb, hp]
  rfl

/-- WW.SUB answers the word and borrow whose value is the difference. -/
theorem exec_wwSub (h : (r.toNat : Int) - 2 ^ 256 * (k.toNat : Int) = (a : Int) - b - c.toNat) :
    exec (.wwSub a b c) s = .next (s.setResponse (said (.wideCarry r k))) := by
  have hp : subWide (BitVec.ofNat 256 a) (BitVec.ofNat 256 b) c = (r, k) :=
    subWide_eq (by rw [toNat_ofNat_of_lt ha, toNat_ofNat_of_lt hb, h])
  rw [exec, execWwSub, withWide_withWide_of_lt s ha hb, hp]
  rfl

variable (c) in
theorem exists_word_carry_of_sum : ∃ (r : Wide) (k : Bool), r.toNat + 2 ^ 256 * k.toNat = a + b + c.toNat :=
  have hc := c.toNat_le
  exists_word_add_carry (by omega)

variable (c) in
theorem exists_word_borrow_of_difference :
    ∃ (r : Wide) (k : Bool), (r.toNat : Int) - 2 ^ 256 * (k.toNat : Int) = (a : Int) - b - c.toNat :=
  have hc := c.toNat_le
  exists_word_sub_borrow (by omega) (by omega)

end

/-- Settles O1: the word and the carry that make up the sum are the answer. -/
theorem wideAddIsExact : Obligations.WideAddIsExact := by
  intro s a b c ha hb
  obtain ⟨r, k, h⟩ := exists_word_carry_of_sum c ha hb
  exact ⟨rfl, r, k, exec_wwAdd s ha hb h, h⟩

/-- Settles O2: the word and the borrow that make up the difference are the answer. -/
theorem wideSubIsExact : Obligations.WideSubIsExact := by
  intro s a b c ha hb
  obtain ⟨r, k, h⟩ := exists_word_borrow_of_difference c ha hb
  exact ⟨rfl, r, k, exec_wwSub s ha hb h, h⟩

/-! ### The other operations when their checks pass (40_wideword_alu.md R103 to R113) -/

/-- The model's comparison is the library's. -/
theorem cmpWide_eq_compare (a b : Wide) : cmpWide a b = compare a.toNat b.toNat := rfl

theorem shlWide_eq_shiftLeft (a : Wide) (n : Nat) : shlWide a n = a <<< n := by
  unfold shlWide
  split
  · next h => exact (BitVec.shiftLeft_eq_zero h).symm
  · exact BitVec.eq_of_toNat_eq (by rw [BitVec.toNat_ofNat, BitVec.toNat_shiftLeft, Nat.shiftLeft_eq])

theorem shrWide_eq_ushiftRight (a : Wide) (n : Nat) : shrWide a n = a >>> n := by
  unfold shrWide
  split
  · next h => exact (BitVec.ushiftRight_eq_zero h).symm
  · refine BitVec.eq_of_toNat_eq ?_
    rw [BitVec.toNat_ofNat, BitVec.toNat_ushiftRight, Nat.shiftRight_eq_div_pow,
      Nat.mod_eq_of_lt ((Nat.div_le_self _ _).trans_lt a.isLt)]

section
variable {a b i x : Nat} (s : State) (ha : a < 2 ^ 256)
include ha

theorem exec_wwCmp (hb : b < 2 ^ 256) :
    exec (.wwCmp a b) s = .next (s.setResponse (said (.ord (compare a b)))) := by
  rw [exec, execWwCmp, withWide_withWide_of_lt s ha hb, cmpWide_eq_compare, toNat_ofNat_of_lt ha,
    toNat_ofNat_of_lt hb]
  rfl

theorem exec_wwAnd (hb : b < 2 ^ 256) : exec (.wwAnd a b) s =
    .next (s.setResponse (said (.wide (BitVec.ofNat 256 a &&& BitVec.ofNat 256 b)))) := by
  rw [exec]
  exact withWide_withWide_of_lt s ha hb _

theorem exec_wwOr (hb : b < 2 ^ 256) : exec (.wwOr a b) s =
    .next (s.setResponse (said (.wide (BitVec.ofNat 256 a ||| BitVec.ofNat 256 b)))) := by
  rw [exec]
  exact withWide_withWide_of_lt s ha hb _

theorem exec_wwXor (hb : b < 2 ^ 256) : exec (.wwXor a b) s =
    .next (s.setResponse (said (.wide (BitVec.ofNat 256 a ^^^ BitVec.ofNat 256 b)))) := by
  rw [exec]
  exact withWide_withWide_of_lt s ha hb _

theorem exec_wwNot : exec (.wwNot a) s = .next (s.setResponse (said (.wide (~~~BitVec.ofNat 256 a)))) := by
  rw [exec]
  exact withWide_of_lt ha s _

theorem exec_wwShl (n : Nat) :
    exec (.wwShl a n) s = .next (s.setResponse (said (.wide (BitVec.ofNat 256 a <<< n)))) := by
  rw [exec, ← shlWide_eq_shiftLeft]
  exact withWide_of_lt ha s _

theorem exec_wwShr (n : Nat) :
    exec (.wwShr a n) s = .next (s.setResponse (said (.wide (BitVec.ofNat 256 a >>> n)))) := by
  rw [exec, ← shrWide_eq_ushiftRight]
  exact withWide_of_lt ha s _

theorem exec_wwGetLimb (hi : i < 8) :
    exec (.wwGetLimb a i) s = .next (s.setResponse (said (.limb (limb (BitVec.ofNat 256 a) i)))) := by
  rw [exec]
  exact withWide_requireIndex_of_lt s ha hi _

theorem exec_wwSetLimb (hi : i < 8) (hx : x < 2 ^ 32) : exec (.wwSetLimb a i x) s =
    .next (s.setResponse (said (.wide (withLimb (BitVec.ofNat 256 a) i (BitVec.ofNat 32 x))))) := by
  rw [exec]
  exact withWide_requireRange_of_lt s ha hi hx _

theorem exec_wwSetHLimb (u : Bool) (hi : i < 8) (hx : x < 2 ^ 16) : exec (.wwSetHLimb a i u x) s =
    .next (s.setResponse (said (.wide (withHlimb (BitVec.ofNat 256 a) i u (BitVec.ofNat 16 x))))) := by
  rw [exec]
  exact withWide_requireRange_of_lt s ha hi hx _

theorem exec_wwSetHWord (hi : i < 2) (hx : x < 2 ^ 128) : exec (.wwSetHWord a i x) s =
    .next (s.setResponse (said (.wide (withHword (BitVec.ofNat 256 a) i (BitVec.ofNat 128 x))))) := by
  rw [exec]
  exact withWide_requireRange_of_lt s ha hi hx _

end

/-- Settles O3: the answer is the library's comparison of natural numbers. -/
theorem wideCompareIsUnsigned : Obligations.WideCompareIsUnsigned := fun s a b ha hb =>
  ⟨compare a b, exec_wwCmp s ha hb, Nat.compare_eq_lt, Nat.compare_eq_eq, Nat.compare_eq_gt⟩

/-- Settles O4: the model's operations are the library's, which act bit by bit. -/
theorem wideBitwiseBits : Obligations.WideBitwiseBits := by
  intro s a b ha hb
  refine ⟨rfl, rfl, rfl, rfl, _, _, _, _, exec_wwAnd s ha hb, exec_wwOr s ha hb, exec_wwXor s ha hb, exec_wwNot s ha,
    fun i hi => ?_⟩
  simp only [BitVec.getLsbD_and, BitVec.getLsbD_or, BitVec.getLsbD_xor, BitVec.getLsbD_not, BitVec.getLsbD_ofNat, hi,
    decide_true, Bool.true_and, and_self]

/-- Settles O5: the model's shifts are the library's, which shift in zeros. -/
theorem wideShiftBits : Obligations.WideShiftBits := by
  intro s a n ha
  refine ⟨_, _, exec_wwShl s ha n, exec_wwShr s ha n, fun i hi => ⟨?_, ?_⟩⟩
  · have hn : i - n < 256 := by omega
    simp only [BitVec.getLsbD_shiftLeft, BitVec.getLsbD_ofNat, hi, hn, ← decide_not, Nat.not_lt, decide_true,
      Bool.true_and]
  · simp only [BitVec.getLsbD_ushiftRight, BitVec.getLsbD_ofNat, Nat.add_comm n i, Nat.lt_succ_iff]

/-! ### Parts of a word (40_wideword_alu.md R110 to R113) -/

theorem toNat_limb (v : Wide) (i : Nat) : (limb v i).toNat = v.toNat / 2 ^ (32 * i) % 2 ^ 32 := by
  rw [limb, part, BitVec.extractLsb'_toNat, Nat.shiftRight_eq_div_pow]

theorem limb_withLimb (v : Wide) {i j : Nat} (x : Limb) (hi : i < 8) (hj : j < 8) :
    limb (withLimb v i x) j = if j = i then x else limb v j := by
  split
  · next h =>
    subst h
    exact part_withPart v (32 * j) x (by omega)
  · exact part_withPart_of_disjoint v (32 * i) (32 * j) x (by omega) (by omega)

theorem replaced_withPart (v : Wide) (lo w x : Nat) : Replaced v (withPart v lo (BitVec.ofNat w x)) lo w x := by
  intro k hk
  rw [getLsbD_withPart v lo _ k hk]
  split
  · next h => rw [BitVec.getLsbD_ofNat, decide_eq_true (by omega), Bool.true_and]
  · rfl

/-- Settles O6: the limb set is read back and the others are the operand's by `limb_withLimb`, and the checks are those
of O8. -/
theorem limbSetThenGet : Obligations.LimbSetThenGet := by
  intro s a i x ha
  have limb_of_operand (j : Nat) : (limb (BitVec.ofNat 256 a) j).toNat = a / 2 ^ (32 * j) % 2 ^ 32 := by
    rw [toNat_limb, toNat_ofNat_of_lt ha]
  obtain ⟨-, -, hindex, -, hrange, -⟩ := wideAluChecks s a 0 i x false
  refine ⟨rfl, rfl, fun hi => ⟨_, exec_wwGetLimb s ha hi, limb_of_operand i⟩, fun hi hx => ?_,
    fun hi => ⟨hindex ha hi _ (by simp), hindex ha hi _ (by simp)⟩, hrange ha⟩
  refine ⟨_, exec_wwSetLimb s ha hi hx, fun j hj => ⟨_, exec_wwGetLimb s (BitVec.isLt _) hj, ?_⟩⟩
  rw [BitVec.ofNat_toNat, BitVec.setWidth_eq, limb_withLimb _ _ hi hj]
  split
  · exact toNat_ofNat_of_lt hx
  · exact limb_of_operand j

/-- Settles O7: both operations replace one part of the word. -/
theorem halfPartsReplaced : Obligations.HalfPartsReplaced := by
  refine fun s a ha => ⟨fun i x u hi hx => ⟨_, exec_wwSetHLimb s ha u hi hx, ?_⟩,
    fun h x hh hx => ⟨_, exec_wwSetHWord s ha hh hx, replaced_withPart _ _ _ _⟩⟩
  cases u <;> exact replaced_withPart _ _ _ _

/-! ### The laws (40_wideword_alu.md R114) -/

/-- Shifting left and then right by n leaves the low w - n bits. -/
theorem ofNat_shiftLeft_ushiftRight (w a : Nat) {n : Nat} (hn : n ≤ w) :
    (BitVec.ofNat w a <<< n) >>> n = BitVec.ofNat w (a % 2 ^ (w - n)) := by
  apply BitVec.eq_of_getLsbD_eq
  intro i hi
  rw [BitVec.getLsbD_ushiftRight, BitVec.getLsbD_shiftLeft, BitVec.getLsbD_ofNat, BitVec.getLsbD_ofNat,
    Nat.testBit_mod_two_pow, Nat.add_sub_cancel_left]
  have : n + i < w ↔ i < w - n := by omega
  simp [hi, this]

/-- Settles O9. Each of the two laws on sums is the exactness of one operation read as the exactness of the other; the
law on shifts holds bit by bit. -/
theorem wideArithmeticLaws : Obligations.WideArithmeticLaws := by
  intro s a b c ha hb
  refine ⟨?_, ?_, fun n hn => ⟨_, exec_wwShl s ha n, ?_⟩⟩
  · have hnot : (~~~BitVec.ofNat 256 b).toNat = 2 ^ 256 - 1 - b := by
      rw [BitVec.toNat_not, toNat_ofNat_of_lt hb]
    obtain ⟨r, k, h⟩ := exists_word_carry_of_sum (!c) ha (~~~BitVec.ofNat 256 b).isLt
    refine ⟨_, r, k, exec_wwNot s hb, exec_wwAdd s ha (BitVec.isLt _) h, exec_wwSub s ha hb ?_⟩
    have hc := toNat_not_add_toNat c
    have hk := toNat_not_add_toNat k
    omega
  · obtain ⟨r, k, h⟩ := exists_word_carry_of_sum c ha hb
    refine ⟨r, k, exec_wwAdd s ha hb h, exec_wwSub s r.isLt hb ?_⟩
    rw [toNat_ofNat_of_lt ha]
    omega
  · rw [exec_wwShr s (BitVec.isLt _), BitVec.ofNat_toNat, BitVec.setWidth_eq, ofNat_shiftLeft_ushiftRight 256 a hn]

/-! ### The flags of a sum and of a difference (40_wideword_alu.md R115, 43_flags.md R186, R190) -/

theorem dC_word_add_carry (r : Wide) (k : Bool) : dC (r.toNat + 2 ^ 256 * k.toNat) = k := by
  rw [dC_eq (word_add_carry_lt r k), decide_two_pow_le_word_add_carry]

theorem dM_word_add_carry (r : Wide) (k : Bool) : dM (r.toNat + 2 ^ 256 * k.toNat) = r.msb := by
  rw [dM_eq, Nat.add_mul_mod_self_left, Nat.mod_eq_of_lt r.isLt, BitVec.msb_eq_decide]

section
variable {v : Nat} (s : State) (h : v < 2 ^ 257)
include h

theorem exec_flagSetW : exec (.flagSetW v) s = .next ((s.setFlags
    { s.flags with c := dC v, m := dM v, l := dL v, z := dZ v }).setResponse (said .none)) := by
  rw [exec, execFlagSetW, deriveFlags, requireRange_of_lt s _ h]
  rfl

theorem exec_flagSetCm : exec (.flagSetCm v) s = .next ((s.setFlags
    { s.flags with c := dC v, m := dM v }).setResponse (said .none)) := by
  rw [exec, execFlagSetCm, deriveFlags, requireRange_of_lt s _ h]
  rfl

end

/-- Settles O29: the sum is the value passed on, and the borrow is the bit above the difference's word. -/
theorem flagsOfSumAndDifference : Obligations.FlagsOfSumAndDifference := by
  intro s a b c ha hb
  constructor
  · obtain ⟨r, k, h⟩ := exists_word_carry_of_sum c ha hb
    have hlt := word_add_carry_lt r k
    refine ⟨r, k, _, exec_wwAdd s ha hb h, exec_flagSetW s hlt, ?_⟩
    rw [h] at hlt ⊢
    exact ⟨dC_eq hlt, rfl, dL_eq _⟩
  · obtain ⟨r, k, h⟩ := exists_word_borrow_of_difference c ha hb
    refine ⟨r, k, _, exec_wwSub s ha hb h, exec_flagSetCm s (word_add_carry_lt r k), ?_, dM_word_add_carry r k, rfl⟩
    change dC _ = _
    rw [dC_word_add_carry, ← decide_word_sub_borrow_neg r k, h, decide_eq_decide]
    omega

end Sys2Proof.Machine
end

section
/-! PROOFS. The wide register file (41_register_file.md R130 to R142) and the CSR and WSR views (R143 to R147): the
checks in their order, what a read answers, and the one store behind every write. -/

open Sys2Proof.Claims

namespace Sys2Proof.Machine

/-! ### Register ids (41_register_file.md R130) -/

theorem resolve_of_names : ∀ {id : RegId} {t : Target}, Names id t → resolve id = .ok t
  | .general _, .general m, h => h ▸ resolve_general m
  | .special 0, .special _, h | .special 1, .special _, h | .special 2, .special _, h
  | .special 3, .special _, h | .special 4, .special _, h | .special 5, .special _, h => by
    cases h
    rfl
  | .special (_ + 6), .special _, h => nomatch h

theorem resolve_general_of_ge {n : Nat} (h : 32 ≤ n) : resolve (.general n) = .error (.indexError n) :=
  dif_neg (Nat.not_lt.mpr h)

theorem resolve_special_of_ge : ∀ {n : Nat}, 6 ≤ n → resolve (.special n) = .error (.invalidOperand (.number n))
  | _ + 6, _ => rfl

theorem withTarget_of_names {id : RegId} {t : Target} (h : Names id t) (s : State) (go : Target → Answer) :
    withTarget id s go = go t := by
  rw [withTarget, resolve_of_names h]

theorem withTarget_of_error {id : RegId} {e : Err} (h : resolve id = .error e) (s : State) (go : Target → Answer) :
    withTarget id s go = .next (s.setResponse (failed e)) := by
  rw [withTarget, h]
  rfl

/-- Each of the ten operations takes the error of its register id before any other (60_exceptions.md R307). -/
theorem exec_of_unresolved {id : RegId} {e : Err} (hr : resolve id = .error e) (s : State) (i x : Nat) (u : Bool)
    (g : Gran) :
    ∀ op ∈ [Instr.rfGet id, .rfSet id x g, .rfGetLimb id i, .rfSetLimb id i x, .rfGetHLimb id i u,
      .rfSetHLimb id i u x, .rfGetHWord id i, .rfSetHWord id i x, .rfGetQWord id i, .rfSetQWord id i x],
    exec op s = .next (s.setResponse (failed e)) := by
  intro op hop
  fin_cases hop <;> exact withTarget_of_error hr s _

/-! ### Reads (41_register_file.md R133 to R135, R137, R139, R141) -/

theorem report_eq_readResponse (d : Option Diag) (r : Result) (s : State) :
    report d r s = .next (s.setResponse (readResponse s d r)) := by
  cases d with
  | none => rfl
  | some d => cases h : s.config.uninitRead <;> simp only [report, readResponse, h] <;> rfl

theorem missing_filter (s : State) (n : Fin 32) (lo count : Nat) :
    Missing s n lo count ((List.range' lo count).filter fun k => !(s.valid[n.val]).getLsbD k) := by
  refine ⟨(List.pairwise_lt_range' 1).filter _, fun k => ?_⟩
  rw [List.mem_filter, List.mem_range'_1, Bool.not_eq_true', and_assoc]

theorem exists_missing (s : State) (n : Fin 32) (lo count : Nat) :
    ∃ m, Missing s n lo count m ∧ s.regDiag (.general n) lo count = missingDiag n m :=
  ⟨_, missing_filter s n lo count, s.regDiag_general n lo count _ rfl⟩

theorem bitsFrom_part (w : Nat) (v : Wide) (lo : Nat) : BitsFrom (part w v lo) v lo := by
  intro j hj
  rw [getLsbD_part, decide_eq_true hj, Bool.true_and]

section
variable {id : RegId} {t : Target} {bound i : Nat} (s : State) (lo count : Nat) (view : Wide → Result)

theorem readPart_of_lt (hn : Names id t) (hi : i < bound) :
    readPart id bound i lo count view s =
      .next (s.setResponse (readResponse s (s.regDiag t lo count) (view (s.cur t)))) := by
  rw [readPart, withTarget_of_names hn, requireIndex_of_lt s _ hi, report_eq_readResponse]

theorem readPart_of_ge (hn : Names id t) (hi : bound ≤ i) :
    readPart id bound i lo count view s = .next (s.setResponse (failed (.indexError i))) := by
  rw [readPart, withTarget_of_names hn, requireIndex_of_ge s _ hi, failed]

theorem readPart_general (n : Fin 32) (hi : i < bound) :
    ∃ m, Missing s n lo count m ∧ readPart (.general n.val) bound i lo count view s =
      .next (s.setResponse (readResponse s (missingDiag n m) (view s.w[n.val]))) := by
  obtain ⟨m, hm, hd⟩ := exists_missing s n lo count
  refine ⟨m, hm, ?_⟩
  have hn : Names (.general n.val) (.general n) := rfl
  rw [readPart_of_lt s lo count view hn hi, hd, State.cur]

theorem readPart_special {c : Nat} {r : SpecialReg} (hn : specialNames[c]? = some r) (hi : i < bound) :
    readPart (.special c) bound i lo count view s = .next (s.setResponse (said (view (s.sp.get r)))) :=
  readPart_of_lt (t := .special r) s lo count view hn hi

end

/-! Each read is a `readPart`: RF.GET of the one part that covers all sixteen slots, the others of their `part`. -/

section
variable (id : RegId) (s : State)

theorem exec_rfGet_eq_readPart : exec (.rfGet id) s = readPart id 1 0 0 16 .wide s := rfl

theorem exec_rfGetLimb_eq_readPart (i : Nat) :
    exec (.rfGetLimb id i) s = readPart id 8 i (2 * i) 2 (fun v => .limb (part 32 v (32 * i))) s := rfl

theorem exec_rfGetHLimb_eq_readPart (i : Nat) (u : Bool) : exec (.rfGetHLimb id i u) s =
    readPart id 8 i (2 * i + u.toNat) 1 (fun v => .halfLimb (part 16 v (32 * i + 16 * u.toNat))) s := rfl

theorem exec_rfGetHWord_eq_readPart (h : Nat) :
    exec (.rfGetHWord id h) s = readPart id 2 h (8 * h) 8 (fun v => .halfWord (part 128 v (128 * h))) s := rfl

theorem exec_rfGetQWord_eq_readPart (q : Nat) :
    exec (.rfGetQWord id q) s = readPart id 4 q (4 * q) 4 (fun v => .quarterWord (part 64 v (64 * q))) s := rfl

end

/-- Settles O11: each of the five reads is a `readPart`. -/
theorem generalRegisterReads : Obligations.GeneralRegisterReads := by
  intro s n
  refine ⟨?_, fun i hi => ?_, fun i u hi => ?_, fun h hh => ?_, fun q hq => ?_⟩
  · rw [exec_rfGet_eq_readPart]
    exact readPart_general s _ _ _ n Nat.one_pos
  · obtain ⟨m, hm, he⟩ := readPart_general s _ _ _ n hi
    exact ⟨m, _, hm, bitsFrom_part _ _ _, (exec_rfGetLimb_eq_readPart _ s i).trans he⟩
  · obtain ⟨m, hm, he⟩ := readPart_general s _ _ _ n hi
    exact ⟨m, _, hm, bitsFrom_part _ _ _, (exec_rfGetHLimb_eq_readPart _ s i u).trans he⟩
  · obtain ⟨m, hm, he⟩ := readPart_general s _ _ _ n hh
    exact ⟨m, _, hm, bitsFrom_part _ _ _, (exec_rfGetHWord_eq_readPart _ s h).trans he⟩
  · obtain ⟨m, hm, he⟩ := readPart_general s _ _ _ n hq
    exact ⟨m, _, hm, bitsFrom_part _ _ _, (exec_rfGetQWord_eq_readPart _ s q).trans he⟩

theorem exec_rfGet_special {c : Nat} (r : SpecialReg) (s : State) (hn : specialNames[c]? = some r) :
    exec (.rfGet (.special c)) s = .next (s.setResponse (said (.wide (s.sp.get r)))) :=
  (exec_rfGet_eq_readPart _ s).trans (readPart_special s _ _ _ hn Nat.one_pos)

/-- Settles O12: the same five reads, of a target that has no validity bits. -/
theorem specialRegisterReads : Obligations.SpecialRegisterReads := by
  intro s
  refine ⟨exec_rfGet_special .mod s rfl, exec_rfGet_special .dmp s rfl, exec_rfGet_special .rfp s rfl,
    exec_rfGet_special .lc s rfl, exec_rfGet_special .rnd s rfl, exec_rfGet_special .acc s rfl, fun c r hn => ?_⟩
  refine ⟨fun i hi => ⟨_, bitsFrom_part _ _ _, (exec_rfGetLimb_eq_readPart _ s i).trans ?_⟩,
    fun i u hi => ⟨_, bitsFrom_part _ _ _, (exec_rfGetHLimb_eq_readPart _ s i u).trans ?_⟩,
    fun h hh => ⟨_, bitsFrom_part _ _ _, (exec_rfGetHWord_eq_readPart _ s h).trans ?_⟩,
    fun q hq => ⟨_, bitsFrom_part _ _ _, (exec_rfGetQWord_eq_readPart _ s q).trans ?_⟩⟩
  · exact readPart_special s _ _ _ hn hi
  · exact readPart_special s _ _ _ hn hi
  · exact readPart_special s _ _ _ hn hh
  · exact readPart_special s _ _ _ hn hq

/-! ### The store behind every write (41_register_file.md R131, R132) -/

/-- What a write does once its register id and its index or granularity are in range: the guard of `rnd`, the check
that x fits w bits, and the store of v that marks the `count` slots from `lo` on. -/
def checkedStore (t : Target) (w x : Nat) (v : Wide) (lo count : Nat) (s : State) : Answer :=
  rndGuard t.isRnd s (requireRange (2 ^ w) x s (answer .none (s.store t v lo count)))

section
variable {t : Target} {w x : Nat} (v : Wide) (lo count : Nat) (s : State)

theorem isRnd_of_ne (ht : t ≠ .special .rnd) : t.isRnd = false := decide_eq_false ht

theorem checkedStore_of_lt (ht : t ≠ .special .rnd) (hx : x < 2 ^ w) :
    checkedStore t w x v lo count s = .next ((s.store t v lo count).setResponse (said .none)) := by
  rw [checkedStore, isRnd_of_ne ht, rndGuard_false, requireRange_of_lt s _ hx, answer_eq, said]

theorem checkedStore_of_ge (ht : t ≠ .special .rnd) (hx : 2 ^ w ≤ x) :
    checkedStore t w x v lo count s = .next (s.setResponse (failed (.rangeError x))) := by
  rw [checkedStore, isRnd_of_ne ht, rndGuard_false, requireRange_of_ge s _ hx, failed]

theorem checkedStore_rnd_fault (w x : Nat) (h : s.config.rndWrite = .fault) :
    checkedStore (.special .rnd) w x v lo count s = .next (s.setResponse (failed (.invalidOperand .rnd))) :=
  rndGuard_fault _ s _ rfl h

theorem checkedStore_rnd_ignore (w x : Nat) (h : s.config.rndWrite = .ignore) :
    checkedStore (.special .rnd) w x v lo count s =
      .next (s.setResponse (if x < 2 ^ w then said .none else failed (.rangeError x))) := by
  rw [checkedStore, rndGuard_ignore _ s _ h]
  split
  · next hx => exact requireRange_of_lt s _ hx
  · next hx => exact requireRange_of_ge s _ (Nat.le_of_not_lt hx)

end

theorem State.cur_setResponse (s : State) (p : Response) (t : Target) : (s.setResponse p).cur t = s.cur t := by
  cases t <;> rfl

theorem State.valid_store (s : State) (t : Target) (v : Wide) {lo count : Nat} (h : lo + count ≤ 16) (m : Fin 32)
    (k : Nat) :
    ((s.store t v lo count).valid[m.val]).getLsbD k =
      ((s.valid[m.val]).getLsbD k || decide (t = .general m ∧ lo ≤ k ∧ k < lo + count)) := by
  cases t with
  | general n =>
    rw [s.valid_store_general n v lo count h m k, ← Bool.decide_and]
    simp only [Target.general.injEq, eq_comm]
  | special r => simp [s.valid_store_special r v lo count]

theorem stored_store {s : State} {t : Target} {v : Wide} {lo w x slot count : Nat} (ht : t ≠ .special .rnd)
    (hv : Replaced (s.cur t) v lo w x) (hs : slot + count ≤ 16) :
    Stored s ((s.store t v slot count).setResponse (said .none)) t lo w x slot count := by
  refine ⟨?_, fun u hu => ?_, s.valid_store t v hs, ?_⟩
  · rwa [State.cur_setResponse, s.cur_store t t v slot count ht, if_pos rfl]
  · rw [State.cur_setResponse, s.cur_store t u v slot count ht, if_neg hu]
  · exact congrArg (State.setResponse · (said .none)) (s.store_frame t v slot count)

theorem checkedStore_stored {s : State} {t : Target} {v : Wide} {lo w x slot count : Nat} (ht : t ≠ .special .rnd)
    (hx : x < 2 ^ w) (hv : Replaced (s.cur t) v lo w x) (hs : slot + count ≤ 16) :
    ∃ u, checkedStore t w x v slot count s = .next u ∧ Stored s u t lo w x slot count :=
  ⟨_, checkedStore_of_lt v slot count s ht hx, stored_store ht hv hs⟩

/-! ### RF.SET (41_register_file.md R131) -/

/-- A granularity that RF.SET accepts. -/
def GranInRange : Gran → Prop
  | .full => True
  | .limb i | .halfLimb i _ => i < 8
  | .unassigned => False

theorem granGuard_of_inRange (s : State) (go : Answer) : ∀ {g : Gran}, GranInRange g → granGuard g s go = go
  | .full, _ => rfl
  | .limb _, h | .halfLimb _ _, h => requireIndex_of_lt s go h

theorem granSlots_le : ∀ {g : Gran}, GranInRange g → (granSlots g).1 + (granSlots g).2 ≤ 16
  | .full, _ => Nat.le_refl 16
  | .limb i, (h : i < 8) => show 2 * i + 2 ≤ 16 by omega
  | .halfLimb i u, (h : i < 8) => by
    have hu := u.toNat_le
    change 2 * i + u.toNat + 1 ≤ 16
    omega

section
variable {id : RegId} {t : Target} {g : Gran} (hn : Names id t) (s : State) (x : Nat)
include hn

theorem exec_rfSet_of_inRange (hg : GranInRange g) : exec (.rfSet id x g) s =
    checkedStore t 256 x (BitVec.ofNat 256 x) (granSlots g).1 (granSlots g).2 s :=
  (withTarget_of_names hn s _).trans (granGuard_of_inRange s _ hg)

theorem exec_rfSet_of_too_wide (hg : GranInRange g) (ht : t ≠ .special .rnd) (hx : 2 ^ 256 ≤ x) :
    exec (.rfSet id x g) s = .next (s.setResponse (failed (.rangeError x))) := by
  rw [exec_rfSet_of_inRange hn s x hg, checkedStore_of_ge _ _ _ s ht hx]

theorem exec_rfSet_unassigned :
    exec (.rfSet id x .unassigned) s = .next (s.setResponse (failed (.invalidOperand (.number 3)))) :=
  withTarget_of_names hn s _

theorem exec_rfSet_limb_of_ge {i : Nat} (hi : 8 ≤ i) :
    exec (.rfSet id x (.limb i)) s = .next (s.setResponse (failed (.indexError i))) :=
  (withTarget_of_names hn s _).trans (requireIndex_of_ge s _ hi)

theorem exec_rfSet_halfLimb_of_ge {i : Nat} (u : Bool) (hi : 8 ≤ i) :
    exec (.rfSet id x (.halfLimb i u)) s = .next (s.setResponse (failed (.indexError i))) :=
  (withTarget_of_names hn s _).trans (requireIndex_of_ge s _ hi)

end

theorem replaced_whole (v : Wide) (x : Nat) : Replaced v (BitVec.ofNat 256 x) 0 256 x := by
  intro k hk
  rw [if_pos (by omega), BitVec.getLsbD_ofNat, decide_eq_true hk, Bool.true_and, Nat.sub_zero]

theorem exec_rfSet_stored {id : RegId} {t : Target} {g : Gran} {x : Nat} (s : State) (hn : Names id t)
    (ht : t ≠ .special .rnd) (hx : x < 2 ^ 256) (hg : GranInRange g) :
    ∃ u, exec (.rfSet id x g) s = .next u ∧ Stored s u t 0 256 x (granSlots g).1 (granSlots g).2 := by
  rw [exec_rfSet_of_inRange hn s x hg]
  exact checkedStore_stored ht hx (replaced_whole _ x) (granSlots_le hg)

/-- Settles O13: the three granularities differ in the slots they name alone. -/
theorem wholeRegisterWrite : Obligations.WholeRegisterWrite := fun s _ _ _ hn ht hx =>
  ⟨exec_rfSet_stored (g := .full) s hn ht hx trivial, fun i hi => exec_rfSet_stored (g := .limb i) s hn ht hx hi,
    fun i u hi => exec_rfSet_stored (g := .halfLimb i u) s hn ht hx hi⟩

/-! ### Writes of a part (41_register_file.md R136, R138, R140, R142) -/

section
variable {id : RegId} {t : Target} {bound i w x slot count : Nat} {put : Wide → BitVec w → Wide} (s : State)

theorem writePart_of_lt (hn : Names id t) (hi : i < bound) : writePart id bound i w x slot count put s =
    checkedStore t w x (put (s.cur t) (BitVec.ofNat w x)) slot count s :=
  (withTarget_of_names hn s _).trans (requireIndex_of_lt s _ hi)

theorem writePart_of_ge (hn : Names id t) (hi : bound ≤ i) :
    writePart id bound i w x slot count put s = .next (s.setResponse (failed (.indexError i))) :=
  (withTarget_of_names hn s _).trans (requireIndex_of_ge s _ hi)

theorem writePart_of_too_wide (hn : Names id t) (ht : t ≠ .special .rnd) (hi : i < bound) (hx : 2 ^ w ≤ x) :
    writePart id bound i w x slot count put s = .next (s.setResponse (failed (.rangeError x))) := by
  rw [writePart_of_lt s hn hi, checkedStore_of_ge _ _ _ s ht hx]

theorem writePart_stored {lo : Nat} (hn : Names id t) (ht : t ≠ .special .rnd) (hi : i < bound) (hx : x < 2 ^ w)
    (hs : slot + count ≤ 16) :
    ∃ u, writePart id bound i w x slot count (fun v y => withPart v lo y) s = .next u ∧
      Stored s u t lo w x slot count := by
  rw [writePart_of_lt s hn hi]
  exact checkedStore_stored ht hx (replaced_withPart _ lo w x) hs

end

/-! Each of the four writes is a `writePart` of its part. -/

section
variable (id : RegId) (x : Nat) (s : State)

theorem exec_rfSetLimb_eq_writePart (i : Nat) : exec (.rfSetLimb id i x) s =
    writePart id 8 i 32 x (2 * i) 2 (fun v y => withPart v (32 * i) y) s := rfl

theorem exec_rfSetHLimb_eq_writePart (i : Nat) (u : Bool) : exec (.rfSetHLimb id i u x) s =
    writePart id 8 i 16 x (2 * i + u.toNat) 1 (fun v y => withPart v (32 * i + 16 * u.toNat) y) s := rfl

theorem exec_rfSetHWord_eq_writePart (h : Nat) : exec (.rfSetHWord id h x) s =
    writePart id 2 h 128 x (8 * h) 8 (fun v y => withPart v (128 * h) y) s := rfl

theorem exec_rfSetQWord_eq_writePart (q : Nat) : exec (.rfSetQWord id q x) s =
    writePart id 4 q 64 x (4 * q) 4 (fun v y => withPart v (64 * q) y) s := rfl

end

/-- Settles O14: each of the four writes is a `writePart`. -/
theorem partRegisterWrites : Obligations.PartRegisterWrites := by
  intro s id t x hn ht
  refine ⟨fun i hi hx => ?_, fun i u hi hx => ?_, fun h hh hx => ?_, fun q hq hx => ?_⟩
  · rw [exec_rfSetLimb_eq_writePart]
    exact writePart_stored s hn ht hi hx (by omega)
  · rw [exec_rfSetHLimb_eq_writePart]
    exact writePart_stored s hn ht hi hx (granSlots_le (g := .halfLimb i u) hi)
  · rw [exec_rfSetHWord_eq_writePart]
    exact writePart_stored s hn ht hh hx (by omega)
  · rw [exec_rfSetQWord_eq_writePart]
    exact writePart_stored s hn ht hq hx (by omega)

/-! ### The order of the checks (41_register_file.md R130, R131, 60_exceptions.md R307) -/

/-- Settles O16: the id's error of all ten operations at once, then the index or granularity, then the value. -/
theorem registerFileChecks : Obligations.RegisterFileChecks := by
  intro s n i x u g
  refine ⟨fun h => exec_of_unresolved (resolve_general_of_ge h) s i x u g,
    fun h => exec_of_unresolved (resolve_special_of_ge h) s i x u g, fun id t hn => ⟨fun hi => ?_, fun hi => ?_,
      fun hi => ?_, exec_rfSet_unassigned hn s x, fun ht => ⟨fun hx => ?_, fun hi hx => ?_,
        fun hi hx => ?_, fun hi hx => ?_, fun hi hx => ?_, fun hi hx => ?_⟩⟩⟩
  · simp only [List.forall_mem_cons]
    exact ⟨exec_rfSet_limb_of_ge hn s x hi, exec_rfSet_halfLimb_of_ge hn s x u hi,
      (exec_rfGetLimb_eq_readPart id s i).trans (readPart_of_ge s _ _ _ hn hi),
      (exec_rfSetLimb_eq_writePart id x s i).trans (writePart_of_ge s hn hi),
      (exec_rfGetHLimb_eq_readPart id s i u).trans (readPart_of_ge s _ _ _ hn hi),
      (exec_rfSetHLimb_eq_writePart id x s i u).trans (writePart_of_ge s hn hi), List.forall_mem_nil _⟩
  · simp only [List.forall_mem_cons]
    exact ⟨(exec_rfGetHWord_eq_readPart id s i).trans (readPart_of_ge s _ _ _ hn hi),
      (exec_rfSetHWord_eq_writePart id x s i).trans (writePart_of_ge s hn hi), List.forall_mem_nil _⟩
  · simp only [List.forall_mem_cons]
    exact ⟨(exec_rfGetQWord_eq_readPart id s i).trans (readPart_of_ge s _ _ _ hn hi),
      (exec_rfSetQWord_eq_writePart id x s i).trans (writePart_of_ge s hn hi), List.forall_mem_nil _⟩
  · exact exec_rfSet_of_too_wide hn s x trivial ht hx
  · simp only [List.forall_mem_cons]
    exact ⟨exec_rfSet_of_too_wide hn s x hi ht hx, exec_rfSet_of_too_wide hn s x hi ht hx, List.forall_mem_nil _⟩
  · rw [exec_rfSetLimb_eq_writePart, writePart_of_too_wide s hn ht hi hx]
  · rw [exec_rfSetHLimb_eq_writePart, writePart_of_too_wide s hn ht hi hx]
  · rw [exec_rfSetHWord_eq_writePart, writePart_of_too_wide s hn ht hi hx]
  · rw [exec_rfSetQWord_eq_writePart, writePart_of_too_wide s hn ht hi hx]

/-! ### CSR and WSR numbers (41_register_file.md R144 to R147) -/

section
variable (s : State)

theorem exec_csrGet_flags :
    exec (.csrGet s.config.csrFlags) s = .next (s.setResponse (said (.limb (s.flags.pack.setWidth 32)))) := by
  rw [exec, execCsrGet, csrTarget_flags]
  rfl

theorem exec_csrSet_flags (x : Nat) : exec (.csrSet s.config.csrFlags x) s =
    requireRange (2 ^ 32) x s (requireRange 256 x s (answer .none (s.setFlags (Flags.unpack x)))) := by
  rw [exec, execCsrSet, csrTarget_flags]

theorem exec_wsrGet_mod : exec (.wsrGet s.config.wsrMod) s = .next (s.setResponse (said (.wide s.sp.mod))) := by
  rw [exec, execWsrGet, wsrTarget_mod]
  rfl

/-- WSR.SET of WSR_MOD is the store to `mod` (R147). -/
theorem exec_wsrSet_mod (v : Nat) : exec (.wsrSet s.config.wsrMod v) s =
    checkedStore (.special .mod) 256 v (BitVec.ofNat 256 v) 0 0 s := by
  rw [exec, execWsrSet, wsrTarget_mod]
  rfl

section
variable (hc : s.config.wf = true)
include hc

theorem exec_csrGet_modLimb {k : Nat} (hk : k < 8) :
    exec (.csrGet (s.config.csrModBase + k)) s = .next (s.setResponse (said (.limb (limb s.sp.mod k)))) := by
  rw [exec, execCsrGet, csrTarget_modLimb _ hc k hk]
  rfl

theorem exec_csrSet_modLimb {k : Nat} (hk : k < 8) (x : Nat) :
    exec (.csrSet (s.config.csrModBase + k) x) s = requireRange (2 ^ 32) x s
      (answer .none (s.setSp { s.sp with mod := withLimb s.sp.mod k (BitVec.ofNat 32 x) })) := by
  rw [exec, execCsrSet, csrTarget_modLimb _ hc k hk]

theorem exec_csrGet_rnd :
    exec (.csrGet s.config.csrRnd) s = .next (s.setResponse (said (.limb (limb s.sp.rnd 0)))) := by
  rw [exec, execCsrGet, csrTarget_rnd _ hc]
  rfl

/-- CSR.SET of CSR_RND is a 32-bit store to `rnd` (R145). -/
theorem exec_csrSet_rnd (x : Nat) :
    exec (.csrSet s.config.csrRnd x) s = checkedStore (.special .rnd) 32 x 0 0 0 s := by
  rw [exec, execCsrSet, csrTarget_rnd _ hc]
  rfl

theorem exec_wsrGet_rnd : exec (.wsrGet s.config.wsrRnd) s = .next (s.setResponse (said (.wide s.sp.rnd))) := by
  rw [exec, execWsrGet, wsrTarget_rnd _ hc]
  rfl

/-- WSR.SET of WSR_RND is a 256-bit store to `rnd` (R147). -/
theorem exec_wsrSet_rnd (v : Nat) :
    exec (.wsrSet s.config.wsrRnd v) s = checkedStore (.special .rnd) 256 v (BitVec.ofNat 256 v) 0 0 s := by
  rw [exec, execWsrSet, wsrTarget_rnd _ hc]
  rfl

end

section
variable {n : Nat}

theorem exec_csrGet_unknown (h : csrTarget s.config n = none) :
    exec (.csrGet n) s = .next (s.setResponse (failed (.invalidOperand (.number n)))) := by
  rw [exec, execCsrGet, h]
  rfl

theorem exec_csrSet_unknown (h : csrTarget s.config n = none) (x : Nat) :
    exec (.csrSet n x) s = .next (s.setResponse (failed (.invalidOperand (.number n)))) := by
  rw [exec, execCsrSet, h]
  rfl

theorem exec_wsrGet_unknown (h : wsrTarget s.config n = none) :
    exec (.wsrGet n) s = .next (s.setResponse (failed (.invalidOperand (.number n)))) := by
  rw [exec, execWsrGet, h]
  rfl

theorem exec_wsrSet_unknown (h : wsrTarget s.config n = none) (v : Nat) :
    exec (.wsrSet n v) s = .next (s.setResponse (failed (.invalidOperand (.number n)))) := by
  rw [exec, execWsrSet, h]
  rfl

end

end

theorem wsrTarget_none {c : Config} {n : Nat} (hm : n ≠ c.wsrMod) (hr : n ≠ c.wsrRnd) : wsrTarget c n = none := by
  rw [wsrTarget, if_neg hm, if_neg hr]

theorem Flags.toNat_pack (f : Flags) : f.pack.toNat =
    f.c.toNat + 2 * f.l.toNat + 4 * f.m.toNat + 8 * f.z.toNat + 16 * f.xc.toNat + 32 * f.xl.toNat +
      64 * f.xm.toNat + 128 * f.xz.toNat := by
  have hc := f.c.toNat_le
  have hl := f.l.toNat_le
  have hm := f.m.toNat_le
  have hz := f.z.toNat_le
  have hxc := f.xc.toNat_le
  have hxl := f.xl.toNat_le
  have hxm := f.xm.toNat_le
  have hxz := f.xz.toNat_le
  rw [Flags.pack, toNat_ofNat_of_lt (by omega)]

theorem limb_rndSentinel : limb rndSentinel 0 = 0x99999999#32 := by decide

/-- Settles O17: each number by the CSR it names; the flags are the packed byte, zero-extended. -/
theorem csrReadsTheViews : Obligations.CsrReadsTheViews := by
  intro s hc
  refine ⟨fun _ => rfl, ⟨_, exec_csrGet_flags s, ?_⟩,
    fun k hk => ⟨_, bitsFrom_part 32 _ _, exec_csrGet_modLimb s hc hk⟩, fun hr => ?_, fun n x hf hr hm => ?_⟩
  · rw [BitVec.toNat_setWidth_of_le (by decide), Flags.toNat_pack]
  · rw [exec_csrGet_rnd s hc, hr, limb_rndSentinel]
  · have hn := csrTarget_none s.config n hf hr hm
    exact ⟨exec_csrGet_unknown s hn, exec_csrSet_unknown s hn x⟩

/-- Settles O18: the flags are written by `Flags.unpack`, a limb of `mod` by `withLimb`, each behind its range check. -/
theorem csrWritesTheViews : Obligations.CsrWritesTheViews := by
  intro s x hc
  refine ⟨fun hx => ?_, fun hx => ?_, fun k hk hx => ⟨_, replaced_withPart _ _ _ _, ?_⟩, fun k hk hx => ?_⟩
  · rw [exec_csrSet_flags, requireRange_of_lt s _ (by omega), requireRange_of_lt s _ hx]
    rfl
  · rw [exec_csrSet_flags, failed]
    by_cases h : x < 2 ^ 32
    · rw [requireRange_of_lt s _ h, requireRange_of_ge s _ hx]
    · rw [requireRange_of_ge s _ (Nat.le_of_not_lt h)]
  · rw [exec_csrSet_modLimb s hc hk, requireRange_of_lt s _ hx]
    rfl
  · rw [exec_csrSet_modLimb s hc hk, requireRange_of_ge s _ hx, failed]

/-- Settles O19: after the store the three views read the one field `mod`. -/
theorem wsrAndOneStorageOfMod : Obligations.WsrAndOneStorageOfMod := by
  intro s v n hc
  have hmod : Target.special .mod ≠ .special .rnd := by decide
  refine ⟨exec_wsrGet_mod s, exec_wsrGet_rnd s hc, fun hm hr => ?_, fun hv => ?_, fun hv => ?_⟩
  · have hn := wsrTarget_none hm hr
    exact ⟨exec_wsrGet_unknown s hn, exec_wsrSet_unknown s hn v⟩
  · rw [exec_wsrSet_mod, checkedStore_of_ge _ _ _ s hmod hv]
  · let t := (s.setSp { s.sp with mod := BitVec.ofNat 256 v }).setResponse (said .none)
    refine ⟨t, (exec_wsrSet_mod s v).trans (checkedStore_of_lt _ _ _ s hmod hv), rfl, exec_wsrGet_mod t,
      exec_rfGet_special .mod t rfl, fun k hk => ⟨_, ?_, exec_csrGet_modLimb t hc hk⟩⟩
    change (limb (BitVec.ofNat 256 v) k).toNat = _
    rw [toNat_limb, toNat_ofNat_of_lt hv]

/-! ### No write path writes `rnd` (41_register_file.md R132) -/

/-- The write paths to `rnd`, each with the width of the value it takes. -/
def rndWrites (c : Config) (i h q x : Nat) (u : Bool) : List (Instr × Nat) :=
  [(.rfSet (.special 4) x .full, 256), (.rfSet (.special 4) x (.limb i), 256),
    (.rfSet (.special 4) x (.halfLimb i u), 256), (.rfSetLimb (.special 4) i x, 32),
    (.rfSetHLimb (.special 4) i u x, 16), (.rfSetHWord (.special 4) h x, 128), (.rfSetQWord (.special 4) q x, 64),
    (.wsrSet c.wsrRnd x, 256), (.csrSet c.csrRnd x, 32)]

theorem rndWrites_are_checkedStores (s : State) {i h q : Nat} (x : Nat) (u : Bool) (hc : s.config.wf = true)
    (hi : i < 8) (hh : h < 2) (hq : q < 4) :
    ∀ p ∈ rndWrites s.config i h q x u, ∃ v lo count,
      exec p.1 s = checkedStore (.special .rnd) p.2 x v lo count s := by
  have hn : Names (.special 4) (.special .rnd) := rfl
  simp only [rndWrites, List.forall_mem_cons]
  exact ⟨⟨_, _, _, exec_rfSet_of_inRange (g := .full) hn s x trivial⟩,
    ⟨_, _, _, exec_rfSet_of_inRange (g := .limb i) hn s x hi⟩,
    ⟨_, _, _, exec_rfSet_of_inRange (g := .halfLimb i u) hn s x hi⟩,
    ⟨_, _, _, (exec_rfSetLimb_eq_writePart _ x s i).trans (writePart_of_lt s hn hi)⟩,
    ⟨_, _, _, (exec_rfSetHLimb_eq_writePart _ x s i u).trans (writePart_of_lt s hn hi)⟩,
    ⟨_, _, _, (exec_rfSetHWord_eq_writePart _ x s h).trans (writePart_of_lt s hn hh)⟩,
    ⟨_, _, _, (exec_rfSetQWord_eq_writePart _ x s q).trans (writePart_of_lt s hn hq)⟩,
    ⟨_, _, _, exec_wsrSet_rnd s hc x⟩, ⟨_, _, _, exec_csrSet_rnd s hc x⟩, List.forall_mem_nil _⟩

/-- Settles O15: every write path ends in a `checkedStore` to `rnd`, which writes nothing under either policy. -/
theorem rndNeverWritten : Obligations.RndNeverWritten := by
  intro s i h q x u hc hi hh hq
  have hw := rndWrites_are_checkedStores s x u hc hi hh hq
  refine ⟨fun hp => List.forall_mem_map (f := Prod.fst) (l := rndWrites s.config i h q x u).mpr fun p hm => ?_,
    fun hp p hm => ?_⟩
  · obtain ⟨v, lo, count, he⟩ := hw p hm
    rw [he, checkedStore_rnd_fault v lo count s _ x hp]
  · obtain ⟨v, lo, count, he⟩ := hw p hm
    rw [he, checkedStore_rnd_ignore v lo count s _ x hp]

end Sys2Proof.Machine
end

section
/-! PROOFS. The scalar GPR file (42_gpr_file.md R160 to R165): the checks in their order, one rule for a read, a write
and an increment, and what x0, x1 and x2 to x7 read and store. -/

open Sys2Proof.Claims

namespace Sys2Proof.Machine

/-! ### The four operations from the dispatch (42_gpr_file.md R161 to R164) -/

section
variable {s t u : State} {i : Nat} {v : Limb} {e : Err}

theorem exec_gprGet_of_ok (h : s.readGpr i = .ok (v, t)) :
    exec (.gprGet i) s = .next (t.setResponse (said (.limb v))) := by
  rw [exec, execGprGet, h]
  rfl

theorem exec_gprGet_of_error (h : s.readGpr i = .error e) : exec (.gprGet i) s = .next (s.setResponse (failed e)) := by
  rw [exec, execGprGet, h]
  rfl

theorem exec_gprSet_of_ok {x : Nat} (h : s.writeGpr i x = .ok t) :
    exec (.gprSet i x) s = .next (t.setResponse (said .none)) := by
  rw [exec, execGprSet, h]
  rfl

theorem exec_gprSet_of_error {x : Nat} (h : s.writeGpr i x = .error e) :
    exec (.gprSet i x) s = .next (s.setResponse (failed e)) := by
  rw [exec, execGprSet, h]
  rfl

/-- Below the bounds a write is the store alone (R162). -/
theorem State.writeGpr_of_lt {x : Nat} (hi : i < 32) (hx : x < 2 ^ 32) :
    s.writeGpr i x = s.storeGpr i (BitVec.ofNat 32 x) := by
  rw [State.writeGpr, if_neg (by omega), if_pos hx]

theorem State.writeGpr_toNat (hi : i < 32) (x : Limb) : s.writeGpr i x.toNat = s.storeGpr i x := by
  rw [State.writeGpr_of_lt hi x.isLt, BitVec.ofNat_toNat, BitVec.setWidth_eq]

/-- An increment reads, adds in 32 bits and stores (R163, R164). -/
theorem State.stepGpr_of_ok {n : Nat} (hi : i < 32) (hr : s.readGpr i = .ok (v, t))
    (hw : t.storeGpr i (v + BitVec.ofNat 32 n) = .ok u) : s.stepGpr i n = .next (u.setResponse (said .none)) := by
  have hsum : (v.toNat + n) % 2 ^ 32 = (v + BitVec.ofNat 32 n).toNat := by
    rw [BitVec.toNat_add, BitVec.toNat_ofNat, Nat.add_mod_mod]
  simp only [State.stepGpr, hr, hsum, State.writeGpr_toNat hi, hw]
  rfl

theorem State.stepGpr_of_error (h : s.readGpr i = .error e) (n : Nat) :
    s.stepGpr i n = .next (s.setResponse (failed e)) := by
  rw [State.stepGpr, h]
  rfl

end

/-! ### The checks (42_gpr_file.md R161, R162) -/

section
variable (s : State) {i x : Nat}

theorem State.readGpr_indexError (hi : 32 ≤ i) : s.readGpr i = .error (.indexError i) := if_pos hi

theorem State.writeGpr_indexError (hi : 32 ≤ i) (x : Nat) : s.writeGpr i x = .error (.indexError i) := if_pos hi

theorem State.writeGpr_rangeError (hi : i < 32) (hx : 2 ^ 32 ≤ x) : s.writeGpr i x = .error (.rangeError x) := by
  rw [State.writeGpr, if_neg (by omega), if_neg (Nat.not_lt.mpr hx)]

end

/-- Settles O24: the index is checked by the read and by the write, the value by the write before any dispatch. -/
theorem gprChecks : Obligations.GprChecks := by
  refine fun s i x => ⟨fun hi => ?_, fun hi hx => exec_gprSet_of_error (s.writeGpr_rangeError hi hx)⟩
  have hread := s.readGpr_indexError hi
  simp only [List.forall_mem_cons]
  exact ⟨exec_gprGet_of_error hread, exec_gprSet_of_error (s.writeGpr_indexError hi x),
    State.stepGpr_of_error hread 1, State.stepGpr_of_error hread wordBytes, List.forall_mem_nil _⟩

/-! ### x0 (10_state.md R24) -/

theorem State.readGpr_zero (s : State) : s.readGpr 0 = .ok (0, s) := rfl

theorem State.storeGpr_zero (s : State) (x : Limb) : s.storeGpr 0 x = .ok s := rfl

/-- Settles O20: a read of x0 is 0 and a store to it the state itself. -/
theorem gprZeroIsConstant : Obligations.GprZeroIsConstant := by
  intro s x hx
  have hwrite : s.writeGpr 0 x = .ok s := by rw [State.writeGpr_of_lt (by decide) hx, s.storeGpr_zero]
  have hstep (n : Nat) : s.stepGpr 0 n = .next (s.setResponse (said .none)) :=
    State.stepGpr_of_ok (by decide) s.readGpr_zero (s.storeGpr_zero _)
  exact ⟨exec_gprGet_of_ok s.readGpr_zero, exec_gprSet_of_ok hwrite, hstep 1, hstep 32⟩

/-! ### x1, the call stack (10_state.md R26, 42_gpr_file.md R165) -/

theorem State.readGpr_one (s : State) : s.readGpr 1 = s.popCall := rfl

theorem State.storeGpr_one (s : State) (x : Limb) : s.storeGpr 1 x = s.pushCall x := rfl

theorem exec_gprGet_one (s : State) : exec (.gprGet 1) s = exec .callPop s := rfl

theorem exec_gprSet_one (s : State) (x : Limb) : exec (.gprSet 1 x.toNat) s = exec (.callPush x) s := by
  rw [exec, exec, execGprSet, execCallPush, State.writeGpr_toNat (by decide), s.storeGpr_one]

section
variable {s : State}

theorem State.popCall_of_append {below : List Limb} {top : Limb} (h : s.cs = below ++ [top]) :
    s.popCall = .ok (top, s.setCs below) := by
  simp only [State.popCall, h, List.getLast?_concat, List.dropLast_concat]

theorem State.popCall_of_nil (h : s.cs = []) : s.popCall = .error (.stackUnderrun .call) := by
  rw [State.popCall, h]
  rfl

theorem State.pushCall_of_lt (x : Limb) (h : s.cs.length < 16) : s.pushCall x = .ok (s.setCs (s.cs ++ [x])) := if_pos h

/-- An increment of x1 pops the top and pushes the sum, for which the pop has made room. -/
theorem State.stepGpr_one {below : List Limb} {top : Limb} (h : s.cs = below ++ [top]) (hlen : below.length < 16)
    (n : Nat) :
    s.stepGpr 1 n = .next ((s.setCs (below ++ [top + BitVec.ofNat 32 n])).setResponse (said .none)) :=
  State.stepGpr_of_ok (by decide) (s.readGpr_one.trans (State.popCall_of_append h))
    (((s.setCs below).storeGpr_one _).trans (State.pushCall_of_lt _ hlen))

end

/-- Settles O23: x1's read is the pop and its store the push; an increment is one after the other. -/
theorem gprX1IsTheCallStack : Obligations.GprX1IsTheCallStack := by
  refine fun s => ⟨exec_gprGet_one s, exec_gprSet_one s,
    fun below top h hlen => ⟨State.stepGpr_one h hlen 1, State.stepGpr_one h hlen 32⟩, fun h => ?_⟩
  have hread := s.readGpr_one.trans (State.popCall_of_nil h)
  exact ⟨State.stepGpr_of_error hread 1, State.stepGpr_of_error hread 32⟩

/-! ### x2 to x7, plain storage (10_state.md R24) -/

section
variable (s : State) (k : Fin 6)

theorem State.readGpr_plain : s.readGpr (k.val + 2) = .ok (s.xs[k.val], s) := by
  have hk := k.isLt
  rw [State.readGpr, if_neg (by omega), if_neg (by omega), if_neg (by omega), dif_pos (by omega)]
  rfl

theorem State.storeGpr_plain (x : Limb) : s.storeGpr (k.val + 2) x = .ok (s.setXs (s.xs.set k.val x)) := by
  have hk := k.isLt
  rw [State.storeGpr, if_neg (by omega), if_neg (by omega), dif_pos (by omega)]
  rfl

theorem State.stepGpr_plain (n : Nat) : s.stepGpr (k.val + 2) n =
    .next ((s.setXs (s.xs.set k.val (s.xs[k.val] + BitVec.ofNat 32 n))).setResponse (said .none)) :=
  State.stepGpr_of_ok (by omega) (s.readGpr_plain k) (s.storeGpr_plain k _)

/-- The state after a store of x to one of x2 to x7 holds x there and differs in nothing else. -/
theorem exists_next_plain {a : Answer} {x : Limb}
    (h : a = .next ((s.setXs (s.xs.set k.val x)).setResponse (said .none))) :
    ∃ t, a = .next t ∧ t.xs[k.val].toNat = x.toNat ∧ (∀ j : Fin 6, j ≠ k → t.xs[j.val] = s.xs[j.val]) ∧
      t = (s.setXs t.xs).setResponse (said .none) := by
  refine ⟨_, h, ?_, fun j hj => ?_, rfl⟩
  · rw [State.setResponse_xs, State.setXs_xs, Vector.getElem_set_self]
  · rw [State.setResponse_xs, State.setXs_xs]
    exact Vector.getElem_set_ne k.isLt j.isLt (Fin.val_ne_of_ne hj.symm)

end

/-- Settles O21: a set stores its value, an increment the 32-bit sum, each in one slot of `xs`. -/
theorem gprPlainStorage : Obligations.GprPlainStorage := by
  intro s k x hx
  have hwrite : s.writeGpr (k.val + 2) x = .ok (s.setXs (s.xs.set k.val (BitVec.ofNat 32 x))) := by
    rw [State.writeGpr_of_lt (by omega) hx, s.storeGpr_plain]
  have hset := exists_next_plain s k (exec_gprSet_of_ok hwrite)
  rw [toNat_ofNat_of_lt hx] at hset
  have hstep (n : Nat) := exists_next_plain s k (s.stepGpr_plain k n)
  simp only [BitVec.toNat_add, BitVec.toNat_ofNat, Nat.add_mod_mod] at hstep
  exact ⟨exec_gprGet_of_ok (s.readGpr_plain k), hset, hstep 1, hstep 32⟩

end Sys2Proof.Machine
end

section
/-! PROOFS. The flag operations (43_flags.md R181 to R193): the flags by their ids and as a packed byte, what each
operation answers when its check passes and when it fails, and that nothing else of the machine writes a flag (R180). -/

open Sys2Proof.Claims

namespace Sys2Proof.Machine

/-! ### The flags by their ids and as a packed byte (10_state.md R30, 43_flags.md R181 to R184) -/

theorem Flags.get_eq_getElem? (fl : Flags) : ∀ f, fl.get f = (flagList fl)[f]?
  | 0 | 1 | 2 | 3 | 4 | 5 | 6 | 7 => rfl
  | _ + 8 => rfl

/-- A set flag replaces the one of its id in the list of flags (R182). -/
theorem Flags.exists_set_of_lt (fl : Flags) (b : Bool) {f : Nat} (hf : f < 8) :
    ∃ fl', fl.set b f = some fl' ∧ flagList fl' = (flagList fl).set f b := by
  interval_cases f <;> exact ⟨_, rfl, rfl⟩

theorem Flags.set_of_ge (fl : Flags) (b : Bool) : ∀ {f}, 8 ≤ f → fl.set b f = none
  | _ + 8, _ => rfl

theorem Flags.getElem?_of_lt (fl : Flags) {f : Nat} (hf : f < 8) : ∃ c, (flagList fl)[f]? = some c :=
  ⟨_, List.getElem?_eq_getElem (l := flagList fl) hf⟩

theorem Flags.getElem?_unpack (p : Nat) {g : Nat} (hg : g < 8) :
    (flagList (Flags.unpack p))[g]? = some (p.testBit g) := by
  have hl : flagList (Flags.unpack p) = (List.range 8).map p.testBit := rfl
  rw [hl, List.getElem?_map, List.getElem?_range hg, Option.map_some]

theorem Flags.getElem?_eq_getLsbD_pack (fl : Flags) {g : Nat} (hg : g < 8) :
    (flagList fl)[g]? = some (fl.pack.getLsbD g) := by
  conv_lhs => rw [← fl.unpack_pack]
  exact Flags.getElem?_unpack _ hg

/-- Packing undoes unpacking: at every bit stands the flag that the bit gave. -/
theorem Flags.pack_unpack (p : Nat) : (Flags.unpack p).pack = BitVec.ofNat 8 p := by
  refine BitVec.eq_of_getLsbD_eq fun g hg => ?_
  have h := (Flags.unpack p).getElem?_eq_getLsbD_pack hg
  rw [Flags.getElem?_unpack p hg, Option.some.injEq] at h
  rw [BitVec.getLsbD_ofNat, decide_eq_true hg, Bool.true_and, h]

/-! ### One flag and the packed byte (43_flags.md R181 to R184) -/

section
variable (s : State) {f p : Nat}

theorem exec_flagGet_of_some {c : Bool} (h : (flagList s.flags)[f]? = some c) :
    exec (.flagGet f) s = .next (s.setResponse (said (.bit c))) := by
  rw [exec, execFlagGet, Flags.get_eq_getElem?, h]
  rfl

theorem exec_flagGet_of_ge (h : 8 ≤ f) :
    exec (.flagGet f) s = .next (s.setResponse (failed (.invalidOperand (.number f)))) := by
  have hn : (flagList s.flags)[f]? = none := List.getElem?_eq_none h
  rw [exec, execFlagGet, Flags.get_eq_getElem?, hn]
  rfl

theorem exec_flagSet_of_some {b : Bool} {fl : Flags} (h : s.flags.set b f = some fl) :
    exec (.flagSet f b) s = .next ((s.setFlags fl).setResponse (said .none)) := by
  rw [exec, execFlagSet, h]
  rfl

theorem exec_flagSet_of_ge (b : Bool) (h : 8 ≤ f) :
    exec (.flagSet f b) s = .next (s.setResponse (failed (.invalidOperand (.number f)))) := by
  rw [exec, execFlagSet, Flags.set_of_ge _ _ h]
  rfl

theorem exec_flagGetP : exec .flagGetP s = .next (s.setResponse (said (.packed s.flags.pack))) := rfl

theorem exec_flagSetP_of_lt (h : p < 256) :
    exec (.flagSetP p) s = .next ((s.setFlags (Flags.unpack p)).setResponse (said .none)) :=
  requireRange_of_lt s _ h

theorem exec_flagSetP_of_ge (h : 256 ≤ p) :
    exec (.flagSetP p) s = .next (s.setResponse (failed (.rangeError p))) :=
  requireRange_of_ge s _ h

end

/-- Settles O25: FLAG.SET replaces one element of the list of flags, which FLAG.GET and FLAG.GETP read. -/
theorem flagSetThenGet : Obligations.FlagSetThenGet := by
  refine fun s f b => ⟨rfl, rfl, rfl, ⟨_, exec_flagGetP s, s.flags.toNat_pack⟩, fun hf => ⟨?_, ?_⟩,
    fun hf => ⟨exec_flagGet_of_ge s hf, exec_flagSet_of_ge s b hf⟩⟩
  · obtain ⟨c, hc⟩ := s.flags.getElem?_of_lt hf
    exact ⟨c, hc, exec_flagGet_of_some s hc⟩
  · obtain ⟨fl, hset, hlist⟩ := s.flags.exists_set_of_lt b hf
    have hget : (flagList fl)[f]? = some b := by
      rw [hlist]
      exact List.getElem?_set_self hf
    exact ⟨_, exec_flagSet_of_some s hset, rfl, hlist, exec_flagGet_of_some _ hget, _, exec_flagGetP _,
      fun g hg => fl.getElem?_eq_getLsbD_pack hg⟩

/-- Settles O26: FLAG.SETP unpacks and FLAG.GETP packs, and the two are inverse. -/
theorem flagsPackedRoundTrip : Obligations.FlagsPackedRoundTrip := by
  refine fun s p => ⟨fun hp => ?_, ?_, exec_flagSetP_of_ge s⟩
  · refine ⟨_, exec_flagSetP_of_lt s hp, rfl, fun g hg => Flags.getElem?_unpack p hg, ?_⟩
    rw [exec_flagGetP, State.setResponse_flags, State.setFlags_flags, Flags.pack_unpack]
  · refine ⟨_, exec_flagGetP s, fun g hg => s.flags.getElem?_eq_getLsbD_pack hg, ?_⟩
    rw [exec_flagSetP_of_lt s (BitVec.isLt _), Flags.unpack_pack, State.setFlags_self]

/-! ### The setters from a 257-bit value (43_flags.md R185 to R193) -/

theorem deriveFlags_of_lt {v : Nat} (h : v < 2 ^ 257) (f : Flags) (s : State) :
    deriveFlags v f s = .next ((s.setFlags f).setResponse (said .none)) :=
  requireRange_of_lt s _ h

theorem deriveFlags_of_ge {v : Nat} (h : 2 ^ 257 ≤ v) (f : Flags) (s : State) :
    deriveFlags v f s = .next (s.setResponse (failed (.rangeError v))) :=
  requireRange_of_ge s _ h

/-- Settles O27: both setters are a `deriveFlags` of the four signals, which are comparisons of v. -/
theorem flagsFromWide : Obligations.FlagsFromWide := by
  refine fun s v => ⟨fun hv => ?_, fun hv op hop => ?_⟩
  · rw [← dC_eq hv, ← dM_eq, ← dL_eq, ← dZ_eq hv]
    exact ⟨exec_flagSetW s hv, deriveFlags_of_lt hv _ s⟩
  · fin_cases hop <;> exact deriveFlags_of_ge hv _ s

/-- Settles O28: each setter is a `deriveFlags` of its own of the four signals. -/
theorem flagsNarrowSetters : Obligations.FlagsNarrowSetters := by
  refine fun s v => ⟨fun hv => ?_, fun hv op hop => ?_⟩
  · rw [← dC_eq hv, ← dM_eq, ← dL_eq, ← dZ_eq hv]
    exact ⟨deriveFlags_of_lt hv _ s, deriveFlags_of_lt hv _ s, exec_flagSetCm s hv, deriveFlags_of_lt hv _ s,
      deriveFlags_of_lt hv _ s, deriveFlags_of_lt hv _ s⟩
  · fin_cases hop <;> exact deriveFlags_of_ge hv _ s

/-! ### `Ensures` through the operations on registers and stacks -/

section
variable {P : State → Prop} {s : State} (h : ∀ p, P (s.setResponse p))
include h

theorem ensures_withTarget {id : RegId} {go : Target → Answer} (hg : ∀ t, Ensures P (go t)) :
    Ensures P (withTarget id s go) := by
  unfold withTarget
  split
  · exact hg _
  · exact ensures_raise h

theorem ensures_granGuard {go : Answer} (hg : Ensures P go) : ∀ g : Gran, Ensures P (granGuard g s go)
  | .full => hg
  | .limb _ => ensures_requireIndex h fun _ => hg
  | .halfLimb _ _ => ensures_requireIndex h fun _ => hg
  | .unassigned => ensures_raise h

theorem ensures_readPart (id : RegId) (bound i lo count : Nat) (view : Wide → Result) :
    Ensures P (readPart id bound i lo count view s) :=
  ensures_withTarget h fun _ => ensures_requireIndex h fun _ => ensures_report h

theorem ensures_checkedStore {t : Target} {w x : Nat} {v : Wide} {lo count : Nat}
    (hs : ∀ p, P ((s.store t v lo count).setResponse p)) : Ensures P (checkedStore t w x v lo count s) :=
  ensures_rndGuard h (ensures_requireRange h fun _ => ensures_answer hs)

theorem ensures_writePart (id : RegId) (bound i w x lo count : Nat) (put : Wide → BitVec w → Wide)
    (hs : ∀ t v p, P ((s.store t v lo count).setResponse p)) :
    Ensures P (writePart id bound i w x lo count put s) :=
  ensures_withTarget h fun t => ensures_requireIndex h fun _ => ensures_checkedStore h (hs t _)

theorem ensures_settle_map {α : Type} {x : Except Err α} {f : α → Result × State}
    (hx : ∀ a, x = .ok a → ∀ p, P ((f a).2.setResponse p)) : Ensures P (settle s (x.map f)) := by
  cases x with
  | ok a => exact ensures_answer (hx a rfl)
  | error e => exact ensures_raise h

end

/-! ### Who leaves the flags alone (43_flags.md R180) -/

/-- The two states have the same flags. -/
def SameFlags (s t : State) : Prop := t.flags = s.flags

theorem SameFlags.refl (s : State) : SameFlags s s := rfl

theorem SameFlags.setResponse {s t : State} (h : SameFlags s t) (p : Response) : SameFlags s (t.setResponse p) := h

theorem sameFlags_store (s : State) (t : Target) (v : Wide) (lo count : Nat) : SameFlags s (s.store t v lo count) := by
  cases t <;> rfl

theorem sameFlags_decLoop (s : State) (e : LoopEntry) : SameFlags s (s.decLoop e).2 := by
  unfold State.decLoop
  split <;> rfl

theorem sameFlags_evalBp (addr : Nat) (s : State) : SameFlags s (evalBp addr s).2 := by
  unfold evalBp
  split
  · rfl
  · split <;> rfl

theorem sameFlags_evalFb (s : State) : SameFlags s (evalFb s).2 := by
  unfold evalFb
  split <;> rfl

section
variable {s t : State}

theorem sameFlags_of_popCall {x : Limb} (h : s.popCall = .ok (x, t)) : SameFlags s t := by
  unfold State.popCall at h
  split at h <;> cases h
  rfl

theorem sameFlags_of_pushCall {x : Limb} (h : s.pushCall x = .ok t) : SameFlags s t := by
  unfold State.pushCall at h
  split at h <;> cases h
  rfl

theorem sameFlags_of_pushLoop {e : LoopEntry} (h : s.pushLoop e = .ok t) : SameFlags s t := by
  unfold State.pushLoop at h
  split at h <;> cases h
  rfl

theorem sameFlags_of_readGpr {i : Nat} {x : Limb} (h : s.readGpr i = .ok (x, t)) : SameFlags s t := by
  unfold State.readGpr at h
  split_ifs at h
  · cases h
    rfl
  · exact sameFlags_of_popCall h
  all_goals
    cases h
    rfl

theorem sameFlags_of_storeGpr {i : Nat} {x : Limb} (h : s.storeGpr i x = .ok t) : SameFlags s t := by
  unfold State.storeGpr at h
  split_ifs at h
  · cases h
    rfl
  · exact sameFlags_of_pushCall h
  all_goals
    cases h
    rfl

theorem sameFlags_of_writeGpr {i x : Nat} (h : s.writeGpr i x = .ok t) : SameFlags s t := by
  unfold State.writeGpr at h
  split_ifs at h
  exact sameFlags_of_storeGpr h

end

theorem stepGpr_sameFlags (s : State) (i n : Nat) : Ensures (SameFlags s) (s.stepGpr i n) := by
  unfold State.stepGpr
  split
  · exact rfl
  · next hr =>
    have hread := sameFlags_of_readGpr hr
    split
    · exact hread
    · next hw => exact (sameFlags_of_writeGpr hw).trans hread

theorem execRfSet_sameFlags (id : RegId) (v : Nat) (g : Gran) (s : State) :
    Ensures (SameFlags s) (execRfSet id v g s) :=
  have hs := (SameFlags.refl s).setResponse
  ensures_withTarget hs fun t =>
    ensures_granGuard hs (ensures_checkedStore hs (sameFlags_store s t _ _ _).setResponse) g

theorem execCsrGet_sameFlags (n : Nat) (s : State) : Ensures (SameFlags s) (execCsrGet n s) := by
  unfold execCsrGet
  split <;> exact rfl

theorem execWsrGet_sameFlags (n : Nat) (s : State) : Ensures (SameFlags s) (execWsrGet n s) := by
  unfold execWsrGet
  split <;> exact rfl

theorem execWsrSet_sameFlags (n v : Nat) (s : State) : Ensures (SameFlags s) (execWsrSet n v s) := by
  have hs := (SameFlags.refl s).setResponse
  unfold execWsrSet
  split
  · exact ensures_raise hs
  · exact ensures_rndGuard hs (ensures_requireRange hs fun _ => rfl)

theorem execFlagGet_sameFlags (f : Nat) (s : State) : Ensures (SameFlags s) (execFlagGet f s) := by
  unfold execFlagGet
  split <;> exact rfl

theorem execImemFetch_sameFlags (a : Nat) (s : State) : Ensures (SameFlags s) (execImemFetch a s) := by
  unfold execImemFetch
  split <;> exact rfl

theorem execBpToggle_sameFlags (addr passes : Nat) (s : State) :
    Ensures (SameFlags s) (execBpToggle addr passes s) := by
  unfold execBpToggle
  split
  · exact rfl
  · split <;> exact rfl

theorem execFbArm_sameFlags (cond : FbCond) (s : State) : Ensures (SameFlags s) (execFbArm cond s) := by
  unfold execFbArm
  split <;> exact rfl

/-- Family 0 by its purity, then a case for each shape of meaning; the writers of R180 are excluded by their
selectors. -/
theorem exec_sameFlags {i : Instr} (h : mayWriteFlags i = false) (s : State) : Ensures (SameFlags s) (exec i s) := by
  have hs := (SameFlags.refl s).setResponse
  by_cases hi : isAlu i = true
  · obtain ⟨p, hp⟩ := wideAluIsPure i hi
    rw [hp s]
    exact hs p
  cases i <;> simp only [exec]
  case rfGet => exact ensures_withTarget hs fun _ => ensures_report hs
  case rfSet id v g => exact execRfSet_sameFlags id v g s
  case rfGetLimb | rfGetHLimb | rfGetHWord | rfGetQWord => exact ensures_readPart hs _ _ _ _ _ _
  case rfSetLimb | rfSetHLimb | rfSetHWord | rfSetQWord =>
    exact ensures_writePart hs _ _ _ _ _ _ _ _ fun t v => (sameFlags_store s t v _ _).setResponse
  case csrGet n => exact execCsrGet_sameFlags n s
  case wsrGet n => exact execWsrGet_sameFlags n s
  case wsrSet n v => exact execWsrSet_sameFlags n v s
  case gprGet => exact ensures_settle_map hs fun _ hr => (sameFlags_of_readGpr hr).setResponse
  case gprSet => exact ensures_settle_map hs fun _ hw => (sameFlags_of_writeGpr hw).setResponse
  case gprInc | gprIncWb => exact stepGpr_sameFlags s _ _
  case flagGet f => exact execFlagGet_sameFlags f s
  case dmemGet | dmemGetLimb => exact ensures_requireIndex hs fun _ => ensures_report hs
  case dmemSet | dmemSetLimb => exact ensures_requireIndex hs fun _ => ensures_requireRange hs fun _ => rfl
  case imemFetch a => exact execImemFetch_sameFlags a s
  case loopPush => exact ensures_settle_map hs fun _ hl => (sameFlags_of_pushLoop hl).setResponse
  case loopDec => exact ensures_settle_map hs fun e _ => (sameFlags_decLoop s e).setResponse
  case loopPop | loopTopEnd | loopTopStart => exact ensures_settle_map hs fun _ _ _ => rfl
  case callPush => exact ensures_settle_map hs fun _ hc => (sameFlags_of_pushCall hc).setResponse
  case callPop => exact ensures_settle_map hs fun _ hc => (sameFlags_of_popCall hc).setResponse
  case bpToggle addr passes => exact execBpToggle_sameFlags addr passes s
  case bpEval addr => exact ensures_answer (sameFlags_evalBp addr s).setResponse
  case fbArm cond => exact execFbArm_sameFlags cond s
  case fbEval => exact ensures_answer (sameFlags_evalFb s).setResponse
  case flagGetP | finish | clearRegs => exact rfl
  case csrSet | flagSet | flagSetP | flagSetW | flagSetXW | flagSetZml | flagSetXZml | flagSetCm | flagSetXCm | flagSetL
      | flagSetXL | step | reset => cases h
  all_goals exact absurd rfl hi

/-- Settles O56: `exec_sameFlags`, of the state that the operation answers with. -/
theorem flagsHaveNoOtherWriter : Obligations.FlagsHaveNoOtherWriter :=
  fun _ s _ h ht => (exec_sameFlags h s).of_next ht

end Sys2Proof.Machine
end

section
/-! PROOFS. Data and instruction memory (44_memory_ops.md R200 to R204): each operation once its checks pass and where
a check fails, the bits of a cell as the bits of its bytes, and what a store leaves for the loads after it. -/

open Sys2Proof.Claims

namespace Sys2Proof.Machine

/-! ### The five operations from the dispatch (44_memory_ops.md R200 to R204) -/

section
variable (s : State) {a : Nat}

theorem exec_dmemGet_of_lt (ha : a < 128) :
    exec (.dmemGet a) s = .next (s.setResponse (cellResponse s a (.wide (s.readCell a)))) :=
  (requireIndex_of_lt s _ ha).trans (report_eq_readResponse _ _ s)

theorem exec_dmemGet_of_ge (ha : 128 ≤ a) : exec (.dmemGet a) s = .next (s.setResponse (failed (.indexError a))) :=
  requireIndex_of_ge s _ ha

theorem exec_dmemGetLimb_of_lt (ha : a < 4096) :
    exec (.dmemGetLimb a) s = .next (s.setResponse (cellResponse s (a / 32) (.limb (s.readMemLimb a)))) :=
  (requireIndex_of_lt s _ ha).trans (report_eq_readResponse _ _ s)

theorem exec_dmemGetLimb_of_ge (ha : 4096 ≤ a) :
    exec (.dmemGetLimb a) s = .next (s.setResponse (failed (.indexError a))) :=
  requireIndex_of_ge s _ ha

theorem exec_imemFetch_of_lt (ha : a < s.params.imem.length) :
    exec (.imemFetch a) s = .next (s.setResponse (said (.obj s.params.imem[a]))) := by
  rw [exec, execImemFetch, List.getElem?_eq_getElem ha]
  rfl

theorem exec_imemFetch_of_ge (ha : s.params.imem.length ≤ a) :
    exec (.imemFetch a) s = .next (s.setResponse (failed (.indexError a))) := by
  rw [exec, execImemFetch, List.getElem?_eq_none ha]
  rfl

variable {x : Nat}

theorem exec_dmemSet_of_lt (ha : a < 128) (hx : x < 2 ^ 256) :
    exec (.dmemSet a x) s = .next ((s.writeCell a x).setResponse (said .none)) :=
  (requireIndex_of_lt s _ ha).trans (requireRange_of_lt s _ hx)

theorem exec_dmemSet_of_ge (x : Nat) (ha : 128 ≤ a) :
    exec (.dmemSet a x) s = .next (s.setResponse (failed (.indexError a))) :=
  requireIndex_of_ge s _ ha

theorem exec_dmemSet_of_too_wide (ha : a < 128) (hx : 2 ^ 256 ≤ x) :
    exec (.dmemSet a x) s = .next (s.setResponse (failed (.rangeError x))) :=
  (requireIndex_of_lt s _ ha).trans (requireRange_of_ge s _ hx)

theorem exec_dmemSetLimb_of_lt (ha : a < 4096) (hx : x < 2 ^ 32) :
    exec (.dmemSetLimb a x) s = .next ((s.writeMemLimb a x).setResponse (said .none)) :=
  (requireIndex_of_lt s _ ha).trans (requireRange_of_lt s _ hx)

theorem exec_dmemSetLimb_of_ge (x : Nat) (ha : 4096 ≤ a) :
    exec (.dmemSetLimb a x) s = .next (s.setResponse (failed (.indexError a))) :=
  requireIndex_of_ge s _ ha

theorem exec_dmemSetLimb_of_too_wide (ha : a < 4096) (hx : 2 ^ 32 ≤ x) :
    exec (.dmemSetLimb a x) s = .next (s.setResponse (failed (.rangeError x))) :=
  (requireIndex_of_lt s _ ha).trans (requireRange_of_ge s _ hx)

end

/-- Settles O33: the address check of the loads and of the stores, then the stores' value check, then the fetch. -/
theorem memoryChecksAndFetch : Obligations.MemoryChecksAndFetch := by
  refine fun s a x => ⟨fun ha => ?_, fun ha => ?_, exec_dmemSet_of_too_wide s, exec_dmemSetLimb_of_too_wide s,
    exec_imemFetch_of_lt s, exec_imemFetch_of_ge s⟩ <;> simp only [List.forall_mem_cons]
  · exact ⟨exec_dmemGet_of_ge s ha, exec_dmemSet_of_ge s x ha, List.forall_mem_nil _⟩
  · exact ⟨exec_dmemGetLimb_of_ge s ha, exec_dmemSetLimb_of_ge s x ha, List.forall_mem_nil _⟩

/-! ### Bytes and bits of a cell (20_memory.md R53) -/

theorem limbBase_eq (b : Nat) : limbBase b = b - b % 4 := by
  unfold limbBase cellOf limbOf
  omega

theorem State.toNat_readCell (s : State) (a : Nat) : (s.readCell a).toNat = s.dmem.readBytes (32 * a) 32 := by
  rw [State.readCell, BitVec.toNat_ofNat, Nat.mod_eq_of_lt (Memory.readBytes_lt_wide s.dmem (32 * a))]

theorem State.readCell_byte (s : State) (a : Nat) {k : Nat} (hk : k < 32) :
    (s.readCell a).toNat / 256 ^ k % 256 = (s.dmem.read (32 * a + k)).toNat := by
  rw [s.toNat_readCell, Memory.readBytes_byte s.dmem (32 * a) 32 k hk]

/-- Bit k of a number is bit k % 8 of its byte k / 8. -/
theorem testBit_eq_getLsbD_byte (x k : Nat) :
    x.testBit k = (BitVec.ofNat 8 (x / 256 ^ (k / 8))).getLsbD (k % 8) := by
  rw [BitVec.getLsbD_ofNat, decide_eq_true (Nat.mod_lt k (by decide)), Bool.true_and,
    show (256 : Nat) ^ (k / 8) = 2 ^ (8 * (k / 8)) from (Nat.pow_mul 2 8 _).symm, Nat.testBit_div_two_pow,
    Nat.mod_add_div]

theorem State.getLsbD_readCell (s : State) (a : Nat) {k : Nat} (hk : k < 256) :
    (s.readCell a).getLsbD k = (s.dmem.read (32 * a + k / 8)).getLsbD (k % 8) := by
  have hbyte : BitVec.ofNat 8 ((s.readCell a).toNat / 256 ^ (k / 8)) = s.dmem.read (32 * a + k / 8) :=
    BitVec.eq_of_toNat_eq (s.readCell_byte a (by omega))
  rw [← hbyte, ← testBit_eq_getLsbD_byte]
  rfl

/-! ### Loads (44_memory_ops.md R200, R202) -/

/-- Settles O32: the bytes of the cell are `State.readCell_byte`, the limb is that of its cell by
`State.readMemLimb_eq`. -/
theorem dmemLoads : Obligations.DmemLoads := by
  refine fun s => ⟨fun a ha => ⟨_, fun k hk => s.readCell_byte a hk, exec_dmemGet_of_lt s ha⟩,
    fun b hb => ⟨_, ?_, exec_dmemGetLimb_of_lt s hb⟩⟩
  rw [s.readMemLimb_eq]
  exact bitsFrom_part 32 _ _

section
variable {s : State} {a : Nat}

theorem cellResponse_of_initialised (hi : s.dinit.getLsbD a = true) (r : Result) : cellResponse s a r = said r := by
  rw [cellResponse, if_pos hi]
  rfl

theorem exec_dmemGet_of_initialised {v : Wide} (ha : a < 128) (hi : s.dinit.getLsbD a = true)
    (hv : s.readCell a = v) : exec (.dmemGet a) s = .next (s.setResponse (said (.wide v))) := by
  rw [exec_dmemGet_of_lt s ha, cellResponse_of_initialised hi, hv]

theorem exec_dmemGetLimb_of_initialised {x : Limb} (ha : a < 4096) (hi : s.dinit.getLsbD (a / 32) = true)
    (hx : s.readMemLimb a = x) : exec (.dmemGetLimb a) s = .next (s.setResponse (said (.limb x))) := by
  rw [exec_dmemGetLimb_of_lt s ha, cellResponse_of_initialised hi, hx]

end

/-! ### Stores (44_memory_ops.md R201, R203) -/

theorem State.writeMemLimb_dmem (s : State) (b x : Nat) :
    (s.writeMemLimb b x).dmem = s.dmem.writeBytes (limbBase b) 4 x := rfl

theorem State.getLsbD_dinit_writeCell (s : State) {a : Nat} (v : Nat) (ha : a < 128) (c : Nat) :
    (s.writeCell a v).dinit.getLsbD c = (s.dinit.getLsbD c || decide (c = a)) :=
  getLsbD_markCell s.dinit a c ha

theorem State.getLsbD_dinit_writeMemLimb (s : State) {b : Nat} (x : Nat) (hb : b < 4096) (c : Nat) :
    (s.writeMemLimb b x).dinit.getLsbD c = (s.dinit.getLsbD c || decide (c = b / 32)) :=
  getLsbD_markCell s.dinit (b / 32) c (by omega)

theorem State.readCell_writeCell (s : State) (hm : s.dmem.wf) (a : Nat) {v : Nat} (hv : v < 2 ^ 256) :
    (s.writeCell a v).readCell a = BitVec.ofNat 256 v := by
  have h := Memory.readBytes_writeBytes s.dmem (32 * a) 32 v hm
  exact congrArg (BitVec.ofNat 256) (h.trans (Nat.mod_eq_of_lt (by omega)))

theorem State.readMemLimb_writeMemLimb (s : State) (hm : s.dmem.wf) (b : Nat) {x : Nat} (hx : x < 2 ^ 32) :
    (s.writeMemLimb b x).readMemLimb b = BitVec.ofNat 32 x := by
  have h := Memory.readBytes_writeBytes s.dmem (limbBase b) 4 x hm
  exact congrArg (BitVec.ofNat 32) (h.trans (Nat.mod_eq_of_lt (by omega)))

/-- A limb store replaces that limb of its cell: a bit of the cell lies in a byte of the limb or in one left alone. -/
theorem State.replaced_writeMemLimb (s : State) (hm : s.dmem.wf) (b x : Nat) :
    Replaced (s.readCell (b / 32)) ((s.writeMemLimb b x).readCell (b / 32)) (32 * (b % 32 / 4)) 32 x := by
  intro k hk
  have hbase : limbBase b = 32 * (b / 32) + 4 * (b % 32 / 4) := rfl
  rw [State.getLsbD_readCell _ _ hk, s.writeMemLimb_dmem]
  split
  · next hin =>
    obtain ⟨j, rfl⟩ := Nat.exists_eq_add_of_le hin.1
    rw [show 32 * (b / 32) + (32 * (b % 32 / 4) + j) / 8 = limbBase b + j / 8 by omega,
      Memory.read_writeBytes_inside _ _ _ _ _ hm (by omega), Nat.add_sub_cancel_left, testBit_eq_getLsbD_byte x j,
      show (32 * (b % 32 / 4) + j) % 8 = j % 8 by omega]
  · next hout =>
    rw [Memory.read_writeBytes_outside _ _ _ _ _ hm (by omega), State.getLsbD_readCell _ _ hk]

/-- Settles O30: the bytes by the laws of `Memory.writeBytes`; the cell is marked, so its load has no diagnostic. -/
theorem dmemCellStore : Obligations.DmemCellStore := by
  intro s a v hm ha hv
  have hdinit := s.getLsbD_dinit_writeCell v ha
  have hmarked : (s.writeCell a v).dinit.getLsbD a = true := by rw [hdinit, decide_eq_true rfl, Bool.or_true]
  exact ⟨_, exec_dmemSet_of_lt s ha hv, fun k hk => Memory.read_writeBytes_inside _ _ _ _ _ hm hk,
    fun b hb => Memory.read_writeBytes_outside _ _ _ _ _ hm hb, hdinit, rfl,
    exec_dmemGet_of_initialised ha hmarked (s.readCell_writeCell hm a hv)⟩

/-- Settles O31: bytes and mark as for a cell store, the limb within its cell by `State.replaced_writeMemLimb`. -/
theorem dmemLimbStore : Obligations.DmemLimbStore := by
  intro s b x hm hb hx
  have hdinit := s.getLsbD_dinit_writeMemLimb x hb
  have hmarked : (s.writeMemLimb b x).dinit.getLsbD (b / 32) = true := by
    rw [hdinit, decide_eq_true rfl, Bool.or_true]
  exact ⟨limbBase_eq b, _, exec_dmemSetLimb_of_lt s hb hx,
    fun k hk => Memory.read_writeBytes_inside _ _ _ _ _ hm hk,
    fun c hc => Memory.read_writeBytes_outside _ _ _ _ _ hm hc, hdinit, rfl,
    exec_dmemGetLimb_of_initialised hb hmarked (s.readMemLimb_writeMemLimb hm b hx),
    _, exec_dmemGet_of_initialised (by omega) hmarked rfl, s.replaced_writeMemLimb hm b x⟩

end Sys2Proof.Machine
end

section
/-! PROOFS. The loop stack and the call stack (45_stacks.md R220 to R227): the end of a stack operation said once, and
the push and the top of each stack where it is empty, non-empty and full. -/

open Sys2Proof.Claims

namespace Sys2Proof.Machine

/-! ### The end of a stack operation -/

section
variable {α : Type} {x : Except Err α}

theorem settle_map_of_ok {a : α} (s : State) (f : α → Result × State) (h : x = .ok a) :
    settle s (x.map f) = .next ((f a).2.setResponse (said (f a).1)) := by
  rw [h]
  rfl

theorem settle_map_of_error {e : Err} (s : State) (f : α → Result × State) (h : x = .error e) :
    settle s (x.map f) = .next (s.setResponse (failed e)) := by
  rw [h]
  rfl

end

/-! ### The stacks where they are empty, non-empty and full (45_stacks.md R220) -/

section
variable {s : State}

theorem State.pushCall_of_ge (x : Limb) (h : 16 ≤ s.cs.length) : s.pushCall x = .error (.stackOverflow .call) :=
  if_neg (Nat.not_lt.mpr h)

theorem State.pushLoop_of_lt (e : LoopEntry) (h : s.ls.length < 16) : s.pushLoop e = .ok (s.setLs (s.ls ++ [e])) :=
  if_pos h

theorem State.pushLoop_of_ge (e : LoopEntry) (h : 16 ≤ s.ls.length) :
    s.pushLoop e = .error (.stackOverflow .loop) :=
  if_neg (Nat.not_lt.mpr h)

theorem State.topLoop_of_nil (h : s.ls = []) : s.topLoop = .error (.stackUnderrun .loop) := by
  rw [State.topLoop, h]
  rfl

variable {below : List LoopEntry} {top : LoopEntry}

theorem State.topLoop_of_append (h : s.ls = below ++ [top]) : s.topLoop = .ok top := by
  rw [State.topLoop, h, List.getLast?_concat]

theorem State.dropLoop_of_append (h : s.ls = below ++ [top]) : s.dropLoop = s.setLs below := by
  rw [State.dropLoop, h, List.dropLast_concat]

theorem State.decLoop_of_count_zero (s : State) (h : top.count = 0) : s.decLoop top = (false, s) := if_pos h

theorem State.decLoop_of_append (h : s.ls = below ++ [top]) (hc : top.count ≠ 0) :
    s.decLoop top = (true, s.setLs (below ++ [{ top with count := top.count - 1 }])) := by
  rw [State.decLoop, if_neg hc, h, List.dropLast_concat]

end

theorem Limb.toNat_sub_one_add_one {c : Limb} (h : 0 < c.toNat) : (c - 1).toNat + 1 = c.toNat := by
  bv_omega

/-! ### The loop stack's operations (45_stacks.md R221 to R225) -/

section
variable {s : State} {below : List LoopEntry} {top : LoopEntry}

theorem exec_loopPop_of_append (h : s.ls = below ++ [top]) :
    exec .loopPop s = .next ((s.setLs below).setResponse (said (.limb top.start))) := by
  rw [← State.dropLoop_of_append h]
  exact settle_map_of_ok s _ (State.topLoop_of_append h)

/-- LOOP.DEC answers with the decrement of the top, whatever its count (R222). -/
theorem exec_loopDec_of_append (h : s.ls = below ++ [top]) {b : Bool} {t : State} (hdec : s.decLoop top = (b, t)) :
    exec .loopDec s = .next (t.setResponse (said (.bit b))) := by
  have hexec := settle_map_of_ok s (fun e => (.bit (s.decLoop e).1, (s.decLoop e).2)) (State.topLoop_of_append h)
  rwa [hdec] at hexec

/-- The four operations that look at the top settle the same underrun (R222 to R225, D18). -/
theorem exec_loop_of_nil (h : s.ls = []) : ∀ op ∈ [Instr.loopDec, .loopPop, .loopTopEnd, .loopTopStart],
    exec op s = .next (s.setResponse (failed (.stackUnderrun .loop))) := by
  have hunderrun (f : LoopEntry → Result × State) := settle_map_of_error s f (State.topLoop_of_nil h)
  simp only [List.forall_mem_cons]
  exact ⟨hunderrun _, hunderrun _, hunderrun _, hunderrun _, List.forall_mem_nil _⟩

end

/-- Settles O34: a push by the depth, the others by the top; a decrement by the top's count. -/
theorem loopStackOperations : Obligations.LoopStackOperations := by
  refine fun s c e b => ⟨fun h => settle_map_of_ok s _ (State.pushLoop_of_lt _ h),
    fun h => settle_map_of_error s _ (State.pushLoop_of_ge _ h), exec_loop_of_nil, fun below h => ?_⟩
  have htop := State.topLoop_of_append h
  refine ⟨settle_map_of_ok s _ htop, settle_map_of_ok s _ htop, exec_loopPop_of_append h, fun hc => ?_, fun hc => ?_⟩
  · have hne : c ≠ 0 := BitVec.toNat_ne.mpr hc.ne'
    exact ⟨c - 1, Limb.toNat_sub_one_add_one hc, exec_loopDec_of_append h (State.decLoop_of_append h hne)⟩
  · exact exec_loopDec_of_append h (s.decLoop_of_count_zero hc)

/-! ### The call stack's operations (45_stacks.md R226, R227) -/

/-- Settles O35: x1's write and read are the push and the pop; each by the stack's depth. -/
theorem callStackOperations : Obligations.CallStackOperations :=
  fun s x => ⟨rfl, rfl, (exec_gprSet_one s x).symm, (exec_gprGet_one s).symm,
    fun h => settle_map_of_ok s _ (State.pushCall_of_lt x h),
    fun h => settle_map_of_error s _ (State.pushCall_of_ge x h),
    fun _ h => settle_map_of_ok s _ (State.popCall_of_append h),
    fun h => settle_map_of_error s _ (State.popCall_of_nil h)⟩

end Sys2Proof.Machine
end

section
/-! PROOFS. The breakpoint table by what is stored at the address, with the count of an entry's visits
(46_debug_triggers.md R240, R241), the force-break by its firing condition (R242, R244), and the breakpoint target given
as a label (R243). -/

open Sys2Proof.Claims

namespace Sys2Proof.Machine

/-! ### The table at an address (10_state.md R37) -/

section
variable (addr a : Nat)

/-- The read-back after a put, in the obligations' order of the two addresses. -/
theorem mapGet_mapPut_bp (e : BpEntry) (m : List (Nat × BpEntry)) :
    mapGet a (mapPut addr e m) = if a = addr then some e else mapGet a m := by
  simp only [mapGet_mapPut, eq_comm]

/-- The read-back after an erasure, in the same order. -/
theorem mapGet_mapErase_bp {m : List (Nat × BpEntry)} (h : MapSorted m) :
    mapGet a (mapErase addr m) = if a = addr then none else mapGet a m := by
  simp only [mapGet_mapErase Nat.lt_irrefl addr a h, eq_comm]

/-- The address put is read back. -/
theorem mapGet_mapPut_bp_self (e : BpEntry) (m : List (Nat × BpEntry)) : mapGet addr (mapPut addr e m) = some e :=
  (mapGet_mapPut_bp addr addr e m).trans (if_pos rfl)

/-- A put over an erasure reads as a put alone. -/
theorem mapGet_mapPut_mapErase_bp (e : BpEntry) {m : List (Nat × BpEntry)} (h : MapSorted m) :
    mapGet a (mapPut addr e (mapErase addr m)) = if a = addr then some e else mapGet a m := by
  rw [mapGet_mapPut_bp, mapGet_mapErase_bp addr a h]
  split_ifs <;> rfl

end

/-! ### BP.TOGGLE (46_debug_triggers.md R240) -/

section
variable {s : State} {addr passes : Nat}

theorem exec_bpToggle_of_some {e : BpEntry} (h : mapGet addr s.bp = some e) (passes : Nat) :
    exec (.bpToggle addr passes) s = .next ((s.setBp (mapErase addr s.bp)).setResponse (said .none)) := by
  change execBpToggle addr passes s = _
  rw [execBpToggle, h]
  rfl

theorem exec_bpToggle_of_none (h : mapGet addr s.bp = none) (hp : 0 < passes) :
    exec (.bpToggle addr passes) s = .next ((s.setBp (mapPut addr ⟨passes, 1⟩ s.bp)).setResponse (said .none)) := by
  change execBpToggle addr passes s = _
  simp only [execBpToggle, h, if_neg hp.ne']
  rfl

theorem exec_bpToggle_zero_of_none (h : mapGet addr s.bp = none) :
    exec (.bpToggle addr 0) s = .next (s.setResponse (failed (.rangeError 0))) := by
  change execBpToggle addr 0 s = _
  rw [execBpToggle, h]
  rfl

end

/-- Settles O36: at an absent address a put, undone by the erasure; at a present one an erasure, then a put. -/
theorem breakpointToggle : Obligations.BreakpointToggle := by
  refine fun s addr passes again hs => ⟨fun hnone hp => ?_, exec_bpToggle_zero_of_none, fun hsome => ?_⟩
  · refine ⟨_, exec_bpToggle_of_none hnone hp, rfl, fun a => mapGet_mapPut_bp addr a _ _, ?_⟩
    rw [exec_bpToggle_of_some (mapGet_mapPut_bp_self addr ⟨passes, 1⟩ s.bp), State.setResponse_bp, State.setBp_bp,
      mapErase_mapPut addr _ hnone]
  · obtain ⟨e, he⟩ := Option.ne_none_iff_exists'.mp hsome
    have herased := (mapGet_mapErase_bp addr addr hs).trans (if_pos rfl)
    exact ⟨_, exec_bpToggle_of_some he passes, rfl, fun a => mapGet_mapErase_bp addr a hs,
      fun hp => ⟨_, exec_bpToggle_of_none herased hp, rfl, fun a => mapGet_mapPut_mapErase_bp addr a _ hs⟩⟩

/-! ### BP.EVAL (46_debug_triggers.md R241) -/

/-- The entry after one evaluation of its address. -/
def BpEntry.visited (e : BpEntry) : BpEntry :=
  { e with counter := if e.counter = e.required then 1 else e.counter + 1 }

theorem BpEntry.visited_counter_bounds {e : BpEntry} (hpos : 1 ≤ e.counter) (hle : e.counter ≤ e.required) :
    1 ≤ e.visited.counter ∧ e.visited.counter ≤ e.required := by
  unfold visited
  dsimp only
  split <;> omega

theorem BpEntry.visited_of_counter_lt {req cnt : Nat} (h : cnt < req) : visited ⟨req, cnt⟩ = ⟨req, cnt + 1⟩ := by
  rw [visited, if_neg h.ne]

section
variable {s : State} {addr : Nat} {e : BpEntry}

theorem evalBp_of_none (h : mapGet addr s.bp = none) : evalBp addr s = (false, s) := by
  rw [evalBp, h]

theorem evalBp_of_some (h : mapGet addr s.bp = some e) :
    evalBp addr s = (decide (e.counter = e.required), s.setBp (mapPut addr e.visited s.bp)) := by
  rw [evalBp, h]
  by_cases hc : e.counter = e.required <;> simp [BpEntry.visited, hc]

theorem exec_bpEval_of_evalBp {b : Bool} {t : State} (h : evalBp addr s = (b, t)) :
    exec (.bpEval addr) s = .next (t.setResponse (said (.bit b))) := by
  change execBpEval addr s = _
  rw [execBpEval, h]
  rfl

/-- The first evaluation answers for the entry as it stands; the rest start from the visited entry. -/
theorem hits_succ_of_some (h : mapGet addr s.bp = some e) (k : Nat) :
    ∃ t, mapGet addr t.bp = some e.visited ∧
      hits addr (k + 1) s = decide (e.counter = e.required) :: hits addr k t := by
  refine ⟨(s.setBp (mapPut addr e.visited s.bp)).setResponse (said (.bit (decide (e.counter = e.required)))), ?_, ?_⟩
  · exact mapGet_mapPut_bp_self addr _ _
  · rw [hits, exec_bpEval_of_evalBp (evalBp_of_some h)]
    rfl

end

/-- Settles O37: one evaluation puts the visited entry back at its address. -/
theorem breakpointEvaluation : Obligations.BreakpointEvaluation := by
  refine fun s addr => ⟨rfl, fun h => exec_bpEval_of_evalBp (evalBp_of_none h), fun req cnt h => ?_⟩
  exact ⟨_, exec_bpEval_of_evalBp (evalBp_of_some h), rfl, fun a => mapGet_mapPut_bp addr a _ _,
    fun hpos hle => ⟨_, mapGet_mapPut_bp_self addr _ _, BpEntry.visited_counter_bounds hpos hle⟩⟩

/-- An entry k visits below its required count fires after k evaluations that do not (46_debug_triggers.md R241). -/
theorem hits_of_counter_add {addr : Nat} (k cnt : Nat) (s : State) (h : mapGet addr s.bp = some ⟨k + cnt, cnt⟩) :
    hits addr (k + 1) s = List.replicate k false ++ [true] := by
  induction k generalizing cnt s with
  | zero =>
    obtain ⟨t, -, ht⟩ := hits_succ_of_some h 0
    simpa [hits] using ht
  | succ k ih =>
    obtain ⟨t, hget, ht⟩ := hits_succ_of_some h (k + 1)
    have hnext : BpEntry.visited ⟨k + 1 + cnt, cnt⟩ = ⟨k + (cnt + 1), cnt + 1⟩ := by
      rw [BpEntry.visited_of_counter_lt (by omega), Nat.add_right_comm, Nat.add_assoc]
    rw [ht, ih (cnt + 1) t (hget.trans (congrArg some hnext))]
    simp [List.replicate_succ]

/-- Settles O38: the entry just set is at 1, passes - 1 visits below its required count. -/
theorem breakpointFiresOnTheNthVisit : Obligations.BreakpointFiresOnTheNthVisit := by
  refine fun s addr passes hnone hp => ⟨_, exec_bpToggle_of_none hnone hp, ?_⟩
  obtain ⟨k, rfl⟩ := Nat.exists_eq_succ_of_ne_zero hp.ne'
  exact hits_of_counter_add k 1 _ (mapGet_mapPut_bp_self addr _ _)

/-! ### The force-break trigger (46_debug_triggers.md R242, R244) -/

section
variable {s : State}

/-- The firing condition: no condition is in use, or one in use holds. -/
theorem fbFires_iff : fbFires s = true ↔ (s.fb.useCall = false ∧ s.fb.useLoop = false) ∨
    (s.fb.useCall = true ∧ s.cs.length = s.fb.callTarget) ∨
    (s.fb.useLoop = true ∧ s.ls.length = s.fb.loopTarget) := by
  simp [fbFires, or_assoc]

theorem evalFb_of_fires (ha : s.fb.armed = true) (hf : fbFires s = true) :
    evalFb s = (true, s.setFb { s.fb with armed := false }) := by
  rw [evalFb, ha, hf]
  rfl

theorem evalFb_of_not_fires (h : s.fb.armed = false ∨ fbFires s = false) : evalFb s = (false, s) := by
  obtain h | h := h <;> simp [evalFb, h]

theorem exec_fbEval_of_evalFb {b : Bool} {t : State} (h : evalFb s = (b, t)) :
    exec .fbEval s = .next (t.setResponse (said (.bit b))) := by
  change execFbEval s = _
  rw [execFbEval, h]
  rfl

end

/-- Settles O39: an arming by its condition, an evaluation by the firing condition. -/
theorem forceBreakArmAndEvaluate : Obligations.ForceBreakArmAndEvaluate := by
  refine fun s d => ⟨rfl, rfl, rfl, rfl, fun ha hf => ?_, fun hf => ?_⟩
  · exact exec_fbEval_of_evalFb (evalFb_of_fires ha (fbFires_iff.mpr hf))
  · refine exec_fbEval_of_evalFb (evalFb_of_not_fires (hf.imp_right fun ⟨huse, hcall, hloop⟩ => ?_))
    rw [← Bool.not_eq_true, fbFires_iff]
    rintro (⟨hc, hl⟩ | h | h)
    · simp [hc, hl] at huse
    · exact hcall h
    · exact hloop h

/-! ### A breakpoint target given as a label (46_debug_triggers.md R243) -/

section
variable {s : State} {label : String} {passes : Nat}

theorem step_of_toggleLabel {rest : List DriverCall} (h : s.driver = .toggleLabel label passes :: rest) :
    step s = serveLabel exec label passes (s.setDriver rest) := by
  simp only [step, h]

theorem serveLabel_of_some {run : Instr → State → Answer} {a : Nat} (h : labelAddr s.params.asmCtx label = some a) :
    serveLabel run label passes s = run (.bpToggle a passes) s := by
  simp only [serveLabel, h]

theorem serveLabel_of_none {run : Instr → State → Answer} (h : labelAddr s.params.asmCtx label = none) :
    serveLabel run label passes s = .next (s.setResponse (failed (.invalidOperand (.label label)))) := by
  simp only [serveLabel, h]
  rfl

end

/-- Settles O40: the driver's call is served by what the context has for the label. -/
theorem labelBreakpointTargets : Obligations.LabelBreakpointTargets := by
  intro s label passes rest hd
  rw [step_of_toggleLabel hd]
  refine ⟨fun hctx => serveLabel_of_none ?_, fun names hctx => ⟨fun h => serveLabel_of_none ?_,
    fun a h => serveLabel_of_some ?_⟩⟩
  · rw [State.setDriver_params, hctx, labelAddr]
  · rw [State.setDriver_params, hctx, labelAddr, h]
  · rw [State.setDriver_params, hctx, labelAddr, h]

end Sys2Proof.Machine
end

section
/-! PROOFS. STEP's own parts said once: what the triggers and the count leave in each field (47_step_engine.md R263,
R264), the loop-tail override where there is one and where there is none (R267), and the next pc inside IMEM, outside it
and off its end (R266, R268); then STEP as these go on. -/

open Sys2Proof.Claims

namespace Sys2Proof.Machine

/-! ### Steps 2 to 4: the triggers and the count (47_step_engine.md R263, R264) -/

/-- FB.EVAL writes the trigger alone. -/
theorem evalFb_snd_eq_setFb (s : State) : (evalFb s).2 = s.setFb (evalFb s).2.fb := by
  unfold evalFb
  split <;> rfl

/-- BP.EVAL writes the table alone. -/
theorem evalBp_snd_eq_setBp (addr : Nat) (s : State) : (evalBp addr s).2 = s.setBp (evalBp addr s).2.bp := by
  cases h : mapGet addr s.bp with
  | none => rw [evalBp_of_none h, State.setBp_self]
  | some e => rw [evalBp_of_some h, State.setBp_bp]

/-- FB.EVAL then BP.EVAL write the trigger that the first leaves and the table that the second leaves. -/
theorem evalTriggers_snd_eq (s : State) :
    (evalTriggers s).2 = (s.setFb (evalFb s).2.fb).setBp (evalTriggers s).2.bp := by
  rw [← evalFb_snd_eq_setFb]
  exact evalBp_snd_eq_setBp s.pc (evalFb s).2

theorem evalTriggers_snd_fb (s : State) : (evalTriggers s).2.fb = (evalFb s).2.fb := by
  rw [evalTriggers_snd_eq, State.setBp_fb, State.setFb_fb]

theorem evalTriggers_snd_hist (s : State) : (evalTriggers s).2.hist = s.hist := by
  rw [evalTriggers_snd_eq, State.setBp_hist, State.setFb_hist]

theorem mapGet_countMnemonic_hist (mnemonic name : String) (s : State) :
    mapGet name (countMnemonic mnemonic s).hist =
      if name = mnemonic then some ((mapGet name s.hist).getD 0 + 1) else mapGet name s.hist := by
  rw [countMnemonic, State.setHist_hist, mapGet_mapPut]
  by_cases h : name = mnemonic
  · rw [h, if_pos rfl]
  · rw [if_neg (Ne.symm h), if_neg h]

/-- Settles O41: FB.EVAL's state is the one BP.EVAL evaluates in, and the count is one put in the histogram. -/
theorem stepEntersWithTriggersAndCount : Obligations.StepEntersWithTriggersAndCount := by
  rintro s u ins hit ⟨-, rfl, rfl⟩
  refine ⟨_, _, _, exec_fbEval_of_evalFb rfl,
    exec_bpEval_of_evalBp (Prod.ext rfl (evalBp_snd_eq_setBp s.pc (evalFb s).2)), evalTriggers_snd_fb s, rfl,
    fun name => ?_, ?_⟩
  · rw [mapGet_countMnemonic_hist, evalTriggers_snd_hist]
  · rw [countMnemonic, State.setHist_fb, State.setHist_bp, State.setHist_hist, evalTriggers_snd_fb,
      ← evalTriggers_snd_eq]

/-! ### Step 1: the halt test (47_step_engine.md R262) -/

theorem haltTest_iff {s : State} : haltTest s = true ↔ Halting s := by
  simp [haltTest, Halting]

theorem not_haltTest_iff {s : State} : (!haltTest s) = true ↔ ¬Halting s := by
  rw [Bool.not_eq_true', ← Bool.not_eq_true, haltTest_iff]

/-! ### Step 6: the loop-tail override (47_step_engine.md R267) -/

theorem State.getLast?_of_topLoop_ok {s : State} {e : LoopEntry} (h : s.topLoop = .ok e) :
    s.ls.getLast? = some e := by
  unfold State.topLoop at h
  split at h
  · next hlast => rw [hlast, Except.ok.inj h]
  · cases h

section
variable {s : State} (req : Option Int)

theorem loopTail_of_notLoopTail (h : NotLoopTail s) : loopTail req s = (req, s) := by
  unfold loopTail
  split
  · rfl
  · next e htop => exact if_neg (h e (State.getLast?_of_topLoop_ok htop))

variable {below : List LoopEntry} {e : LoopEntry}

theorem loopTail_of_count_pos (h : s.ls = below ++ [e]) (hpc : s.pc = e.endAddr.toNat) (hc : 0 < e.count.toNat) :
    loopTail req s =
      (some (e.start.toNat : Int), s.setLs (below ++ [{ e with count := e.count - 1 }])) := by
  have hdec := State.decLoop_of_append h (BitVec.toNat_ne.mpr hc.ne')
  simp only [loopTail, State.topLoop_of_append h, if_pos hpc, hdec, if_true]

theorem loopTail_of_count_zero (h : s.ls = below ++ [e]) (hpc : s.pc = e.endAddr.toNat) (hc : e.count = 0) :
    loopTail req s = (none, s.setLs below) := by
  simp only [loopTail, State.topLoop_of_append h, if_pos hpc, s.decLoop_of_count_zero hc, Bool.false_eq_true, if_false,
    State.dropLoop_of_append h]

end

/-! ### Step 7: the next pc (47_step_engine.md R266, R268) -/

section
variable {s : State}

theorem nextPc_of_target_inside {target : Int} (h : 0 ≤ target ∧ target < s.params.imem.length) :
    nextPc (some target) s = .ok (true, s.setPc target.toNat) := if_pos h

theorem nextPc_of_target_outside {target : Int} (h : target < 0 ∨ (s.params.imem.length : Int) ≤ target) :
    nextPc (some target) s = .error (.invalidJump target) := if_neg (by omega)

theorem nextPc_none_of_lt (h : s.pc + 1 < s.params.imem.length) : nextPc none s = .ok (true, s.setPc (s.pc + 1)) :=
  if_pos h

theorem nextPc_none_of_ge (h : s.params.imem.length ≤ s.pc + 1) : nextPc none s = .ok (false, s) :=
  if_neg (Nat.not_lt.mpr h)

/-- The run ends by the next pc only where there is nothing to fall through to. -/
theorem nextPc_false {req : Option Int} {t : State} (h : nextPc req s = .ok (false, t)) :
    s.params.imem.length ≤ s.pc + 1 ∧ t = s := by
  cases req with
  | some target =>
    by_cases hin : 0 ≤ target ∧ target < s.params.imem.length
    · rw [nextPc_of_target_inside hin] at h
      cases h
    · rw [nextPc_of_target_outside (by omega)] at h
      cases h
  | none =>
    by_cases hlt : s.pc + 1 < s.params.imem.length
    · rw [nextPc_none_of_lt hlt] at h
      cases h
    · rw [nextPc_none_of_ge (Nat.not_lt.mp hlt)] at h
      cases h
      exact ⟨Nat.not_lt.mp hlt, rfl⟩

end

/-! ### STEP on an instruction that returns (47_step_engine.md R261) -/

section
variable {s u v w : State} {ins : InstrObj} {hit : Bool} {trace : String} {req : Option Int} {ds : List Diag}

theorem preserves_of_returned (h : Entered s u ins hit) (hr : runIns ins u = .returned trace req ds v) :
    Preserves s v := by
  obtain ⟨-, -, rfl⟩ := h
  have hrun := runIns_kept ins (countMnemonic ins.mnemonic (evalTriggers s).2)
  rw [hr] at hrun
  exact ((evalTriggers_preserves s).trans (countMnemonic_preserves _ _)).trans (Kept.preserves hrun)

theorem preserves_of_loopTail {next : Option Int} (h : Entered s u ins hit)
    (hr : runIns ins u = .returned trace req ds v) (hl : loopTail req v = (next, w)) : Preserves s w := by
  have hkept := loopTail_kept req v
  rw [hl] at hkept
  exact (preserves_of_returned h hr).trans hkept.preserves

theorem finishStep_of_ok {next : Option Int} {cont : Bool} {t : State} (halt0 : Bool) (cycles : Nat)
    (hl : loopTail req v = (next, w)) (hn : nextPc next w = .ok (cont, t)) :
    finishStep halt0 hit trace cycles ds req v =
      .next (t.setResponse ⟨.stepDone (cont && !halt0) trace cycles hit, none, ds⟩) := by
  simp only [finishStep, hl, hn, answerWith_eq]

theorem finishStep_of_error {next : Option Int} {e : Err} (halt0 : Bool) (cycles : Nat)
    (hl : loopTail req v = (next, w)) (hn : nextPc next w = .error e) :
    finishStep halt0 hit trace cycles ds req v = .next (w.setResponse ⟨.none, some e, ds⟩) := by
  simp only [finishStep, hl, hn, raiseAfter_eq]

/-- A target inside IMEM, the instruction's own or a loop entry's start, becomes the pc. -/
theorem exec_step_jumps {target : Int} (h : Entered s u ins hit) (hr : runIns ins u = .returned trace req ds v)
    (hl : loopTail req v = (some target, w)) (hin : 0 ≤ target ∧ target < s.params.imem.length) :
    exec .step s =
      .next ((w.setPc target.toNat).setResponse ⟨.stepDone (!haltTest s) trace ins.cycles hit, none, ds⟩) := by
  rw [← (preserves_of_loopTail h hr hl).params] at hin
  rw [exec_step_of_returned h hr, finishStep_of_ok _ _ hl (nextPc_of_target_inside hin), Bool.true_and]

/-- A target outside IMEM ends STEP after step 6. -/
theorem exec_step_invalidJump {target : Int} (h : Entered s u ins hit) (hr : runIns ins u = .returned trace req ds v)
    (hl : loopTail req v = (some target, w)) (hout : target < 0 ∨ (s.params.imem.length : Int) ≤ target) :
    exec .step s = .next (w.setResponse ⟨.none, some (.invalidJump target), ds⟩) := by
  rw [← (preserves_of_loopTail h hr hl).params] at hout
  rw [exec_step_of_returned h hr, finishStep_of_error _ _ hl (nextPc_of_target_outside hout)]

/-- With no target STEP falls through to pc + 1, or ends the run at the end of IMEM (D19). -/
theorem exec_step_falls_through (h : Entered s u ins hit) (hr : runIns ins u = .returned trace req ds v)
    (hl : loopTail req v = (none, w)) :
    ∃ (t : State) (cont : Bool), exec .step s = .next t ∧
      (s.pc + 1 < s.params.imem.length → t.pc = s.pc + 1 ∧ (cont = true ↔ ¬Halting s)) ∧
      (s.params.imem.length ≤ s.pc + 1 → t.pc = s.pc ∧ cont = false) ∧
      t = (w.setPc t.pc).setResponse ⟨.stepDone cont trace ins.cycles hit, none, ds⟩ := by
  have hw := preserves_of_loopTail h hr hl
  rw [exec_step_of_returned h hr, ← hw.params, ← hw.pc]
  by_cases hlt : w.pc + 1 < w.params.imem.length
  · refine ⟨_, _, finishStep_of_ok _ _ hl (nextPc_none_of_lt hlt), fun _ => ⟨rfl, ?_⟩, fun hge => ?_, rfl⟩
    · rw [Bool.true_and, not_haltTest_iff]
    · omega
  · exact ⟨_, _, finishStep_of_ok _ _ hl (nextPc_none_of_ge (Nat.not_lt.mp hlt)), fun h => absurd h hlt,
      fun _ => ⟨rfl, rfl⟩, rfl⟩

end

/-- Settles O43: with no loop's end the instruction's own target decides, a jump or a fall-through. -/
theorem stepOfReturningInstruction : Obligations.StepOfReturningInstruction := by
  intro s u v ins hit trace req ds he hr hnot hin
  have hl := loopTail_of_notLoopTail req hnot
  cases req with
  | some target =>
    obtain ⟨hnonneg, hlt⟩ := hin target rfl
    refine ⟨_, _, exec_step_jumps he hr hl ⟨hnonneg, hlt⟩, rfl, fun _ ht => ?_, nofun, nofun⟩
    cases ht
    exact ⟨Int.toNat_of_nonneg hnonneg, not_haltTest_iff⟩
  | none =>
    obtain ⟨t, cont, hstep, hnext, hend, ht⟩ := exec_step_falls_through he hr hl
    exact ⟨t, cont, hstep, ht, nofun, fun _ => hnext, fun _ => hend⟩

/-- Settles O44: a positive count makes the start the target, a count of 0 leaves none. -/
theorem stepAtLoopTail : Obligations.StepAtLoopTail := by
  intro s u v ins hit trace req ds below e he hr hls hpc
  have hvpc := (preserves_of_returned he hr).pc.trans hpc
  refine ⟨fun hc hstart => ?_, fun hc => ?_⟩
  · have hl := loopTail_of_count_pos req hls hvpc hc
    exact ⟨_, _, e.count - 1, exec_step_jumps he hr hl ⟨Int.natCast_nonneg _, Int.ofNat_lt.mpr hstart⟩,
      Limb.toNat_sub_one_add_one hc, not_haltTest_iff, rfl⟩
  · exact exec_step_falls_through he hr (loopTail_of_count_zero req hls hvpc hc)

/-- Settles O45: both bad targets are step 7's, after a step 6 that does nothing or decrements. -/
theorem stepInvalidJump : Obligations.StepInvalidJump := by
  intro s u v ins hit trace req ds he hr
  have hvpc := (preserves_of_returned he hr).pc
  refine ⟨?_, fun below e hls hpc hc hstart => ?_⟩
  · rintro target rfl hout hnot
    exact ⟨hvpc, exec_step_invalidJump he hr (loopTail_of_notLoopTail _ hnot) hout⟩
  · have hl := loopTail_of_count_pos req hls (hvpc.trans hpc) hc
    exact ⟨e.count - 1, Limb.toNat_sub_one_add_one hc, hvpc,
      exec_step_invalidJump he hr hl (.inr (Int.ofNat_le.mpr hstart))⟩

/-! ### The ends of a run (47_step_engine.md R262, R268, R269) -/

/-- A STEP that completes has run an object that returned, and its cont is step 7's unless the run was to halt. -/
theorem exec_step_completes {s t : State} {cont hit : Bool} {trace : String} {cycles : Nat}
    (hstep : exec .step s = .next t) (hres : t.response.result = .stepDone cont trace cycles hit) :
    ∃ (next : Option Int) (more : Bool) (w x : State), Preserves s w ∧ nextPc next w = .ok (more, x) ∧
      cont = (more && !haltTest s) ∧ t.pc = x.pc := by
  cases hf : s.params.imem[s.pc]? with
  | none =>
    rw [exec_step_of_no_object hf] at hstep
    cases hstep
    cases hres
  | some ins =>
    have he : Entered s _ ins _ := ⟨hf, rfl, rfl⟩
    cases hr : runIns ins (countMnemonic ins.mnemonic (evalTriggers s).2) with
    | returned str req ds v =>
      rw [exec_step_of_returned he hr] at hstep
      cases hn : nextPc (loopTail req v).1 (loopTail req v).2 with
      | ok p =>
        obtain ⟨more, x⟩ := p
        rw [finishStep_of_ok _ _ rfl hn] at hstep
        cases hstep
        cases hres
        exact ⟨_, more, _, x, preserves_of_loopTail he hr rfl, hn, rfl, rfl⟩
      | error e =>
        rw [finishStep_of_error _ _ rfl hn] at hstep
        cases hstep
        cases hres
    | raised e ds v =>
      rw [exec_step_of_raised he hr] at hstep
      cases hstep
      cases hres
    | stopped a =>
      obtain ⟨r, rfl⟩ := runIns_stopsRefused _ _ _ hr
      rw [exec_step_of_stopped he hr] at hstep
      cases hstep

/-- Settles O47: cont is 0 by the halt test or by step 7, which ends the run only off the end of IMEM. -/
theorem finishAndTheEndsOfARun : Obligations.FinishAndTheEndsOfARun := by
  refine ⟨fun _ => rfl, fun s t cont hit trace cycles hstep hres => ?_⟩
  obtain ⟨next, more, w, x, hw, hn, rfl, hpc⟩ := exec_step_completes hstep hres
  refine ⟨fun hh => ?_, fun hcont => ?_⟩
  · rw [haltTest_iff.mpr hh, Bool.not_true, Bool.and_false]
  · cases more with
    | true => exact .inl (haltTest_iff.mp (by simpa using hcont))
    | false =>
      obtain ⟨hend, rfl⟩ := nextPc_false hn
      rw [hw.params, hw.pc] at hend
      exact .inr ⟨hend, hpc.trans hw.pc⟩

end Sys2Proof.Machine
end

section
/-! PROOFS. An error of the instruction or of the fetch ends STEP (60_exceptions.md R310, R311), and RESET and CLEARREGS
by their definitions (70_reset_and_hazards.md R343, R344). -/

open Sys2Proof.Claims

namespace Sys2Proof.Machine

/-! ### STEP on an instruction that raises, and with no object at the pc (60_exceptions.md R310, R204) -/

section
variable {s u v : State} {ins : InstrObj} {hit : Bool} {e : Err} {ds : List Diag}

/-- Steps 2 to 4 keep the pc, among the rest of `Preserves`. -/
theorem preserves_of_entered (h : Entered s u ins hit) : Preserves s u := by
  obtain ⟨-, -, rfl⟩ := h
  exact (evalTriggers_preserves s).trans (countMnemonic_preserves _ _)

theorem kept_of_raised (hr : runIns ins u = .raised e ds v) : Kept u v := by
  have hrun := runIns_kept ins u
  rwa [hr] at hrun

end

/-- Settles O46: what the run keeps, it keeps where an error ends it; the fetch comes after both triggers. -/
theorem stepErrors : Obligations.StepErrors := by
  refine ⟨fun s u v ins hit e ds he hr => ?_, fun s hpc => ?_⟩
  · have hkept := kept_of_raised hr
    exact ⟨exec_step_of_raised he hr, hkept.pc.trans (preserves_of_entered he).pc, hkept.fb, hkept.bp, hkept.hist⟩
  · exact ⟨_, _, _, _, exec_fbEval_of_evalFb rfl, exec_bpEval_of_evalBp rfl,
      exec_step_of_no_object (List.getElem?_eq_none hpc)⟩

/-! ### RESET and CLEARREGS (70_reset_and_hazards.md R343, R344) -/

/-- RESET answers with the machine made of the same inputs, and three fields of before in it. -/
theorem exec_reset (s : State) : exec .reset s =
    .next (((((machineOf s.config s.params).setBp s.bp).setHist s.hist).setDriver s.driver).setResponse
      (said .none)) := rfl

/-- Settles O48: a constructed machine is the one made of its inputs. -/
theorem resetReconstructs : Obligations.ResetReconstructs := by
  intro s m hm
  obtain ⟨-, rfl⟩ := construct_eq_some hm
  exact ⟨_, exec_reset s, rfl, rfl, rfl⟩

/-- CLEARREGS answers with four fields written. -/
theorem exec_clearRegs (s : State) : exec .clearRegs s =
    .next (((((s.setW (.replicate 32 0)).setValid (.replicate 32 0)).setSp ⟨0, 0, 0, 0, s.sp.rnd, 0⟩).setXs
      (.replicate 6 0)).setResponse (said .none)) := rfl

/-- Settles O49: each element of a replicated vector is 0. -/
theorem clearRegsClears : Obligations.ClearRegsClears := fun s =>
  ⟨_, exec_clearRegs s, fun _ => ⟨Vector.getElem_replicate _, Vector.getElem_replicate _⟩,
    fun _ => Vector.getElem_replicate _, rfl, rfl⟩

end Sys2Proof.Machine
end

section
/-! PROOFS. An operation that raises has written nothing but its response (60_exceptions.md R303, R310): its checks come
before its writes, and GPR.INC of x1 pushes where its pop has made room (10_state.md R42). -/

open Sys2Proof.Claims

namespace Sys2Proof.Machine

/-- If t is the state after an error, it is s but for the response. -/
def UnwrittenOnError (s t : State) : Prop := t.response.err ≠ none → t = s.setResponse t.response

theorem unwrittenOnError_setResponse (s : State) (p : Response) : UnwrittenOnError s (s.setResponse p) := fun _ => rfl

/-! ### `UnwrittenOnError` through the shared operations -/

section
variable (s : State)

/-- An answer carries no error, whatever state it is of. -/
theorem answer_unwritten (r : Result) (t : State) : Ensures (UnwrittenOnError s) (answer r t) :=
  fun h => absurd rfl h

theorem raise_unwritten (e : Err) : Ensures (UnwrittenOnError s) (raise e s) :=
  ensures_raise (unwrittenOnError_setResponse s)

theorem settle_unwritten : ∀ x : Except Err (Result × State), Ensures (UnwrittenOnError s) (settle s x)
  | .ok (r, t) => answer_unwritten s r t
  | .error e => raise_unwritten s e

theorem requireRange_answer_unwritten (limit v : Nat) (r : Result) (t : State) :
    Ensures (UnwrittenOnError s) (requireRange limit v s (answer r t)) :=
  ensures_requireRange (unwrittenOnError_setResponse s) fun _ => answer_unwritten s r t

/-- The write to a target that may be `rnd`: the guard of `rnd`, the check of the value, then the write. -/
theorem rndGuard_answer_unwritten (b : Bool) (limit v : Nat) (r : Result) (t : State) :
    Ensures (UnwrittenOnError s) (rndGuard b s (requireRange limit v s (answer r t))) :=
  ensures_rndGuard (unwrittenOnError_setResponse s) (requireRange_answer_unwritten s limit v r t)

theorem writePart_unwritten (id : RegId) (bound i w x lo count : Nat) (put : Wide → BitVec w → Wide) :
    Ensures (UnwrittenOnError s) (writePart id bound i w x lo count put s) :=
  have hs := unwrittenOnError_setResponse s
  ensures_withTarget hs fun _ => ensures_requireIndex hs fun _ => rndGuard_answer_unwritten s _ _ _ _ _

end

/-! ### GPR.INC and GPR.INCWB (42_gpr_file.md R163, R164) -/

section
variable {s t : State} {i : Nat} {v : Limb}

theorem lt_of_readGpr_ok (h : s.readGpr i = .ok (v, t)) : i < 32 := by
  by_contra hi
  rw [s.readGpr_indexError (Nat.le_of_not_lt hi)] at h
  cases h

/-- Only the push on the call stack can fail. -/
theorem State.exists_storeGpr_of_ne_one (s : State) (h : i ≠ 1) (x : Limb) : ∃ u, s.storeGpr i x = .ok u := by
  unfold State.storeGpr
  split_ifs <;> exact ⟨_, rfl⟩

theorem cs_length_lt_of_popCall (hcs : s.cs.length ≤ 16) (h : s.popCall = .ok (v, t)) : t.cs.length < 16 := by
  unfold State.popCall at h
  split at h
  · cases h
    rw [State.setCs_cs, List.length_dropLast]
    omega
  · cases h

/-- After the read of a GPR its store succeeds: for x1 the pop has made room for the push. -/
theorem exists_storeGpr_of_readGpr (hcs : s.cs.length ≤ 16) (h : s.readGpr i = .ok (v, t)) (x : Limb) :
    ∃ u, t.storeGpr i x = .ok u := by
  by_cases hi : i = 1
  · subst hi
    exact ⟨_, (t.storeGpr_one x).trans (State.pushCall_of_lt x (cs_length_lt_of_popCall hcs h))⟩
  · exact t.exists_storeGpr_of_ne_one hi x

/-- An increment raises only at its read, which has written nothing. -/
theorem stepGpr_unwritten (hcs : s.cs.length ≤ 16) (i n : Nat) : Ensures (UnwrittenOnError s) (s.stepGpr i n) := by
  cases hr : s.readGpr i with
  | error e =>
    rw [State.stepGpr_of_error hr]
    exact unwrittenOnError_setResponse s _
  | ok p =>
    obtain ⟨u, hw⟩ := exists_storeGpr_of_readGpr hcs hr (p.1 + BitVec.ofNat 32 n)
    rw [State.stepGpr_of_ok (lt_of_readGpr_ok hr) hr hw]
    exact answer_unwritten s .none u

end

/-! ### The operations that look something up: an answer or an error in each case -/

section
variable (s : State)

theorem execRfSet_unwritten (id : RegId) (v : Nat) (g : Gran) : Ensures (UnwrittenOnError s) (execRfSet id v g s) :=
  have hs := unwrittenOnError_setResponse s
  ensures_withTarget hs fun _ => ensures_granGuard hs (rndGuard_answer_unwritten s _ _ _ _ _) g

theorem execCsrGet_unwritten (n : Nat) : Ensures (UnwrittenOnError s) (execCsrGet n s) := by
  unfold execCsrGet
  split
  · exact answer_unwritten s _ _
  · exact answer_unwritten s _ _
  · exact answer_unwritten s _ _
  · exact raise_unwritten s _

theorem execCsrSet_unwritten (n x : Nat) : Ensures (UnwrittenOnError s) (execCsrSet n x s) := by
  unfold execCsrSet
  split
  · exact raise_unwritten s _
  · exact rndGuard_answer_unwritten s _ _ _ _ _
  · exact ensures_requireRange (unwrittenOnError_setResponse s) fun _ => requireRange_answer_unwritten s _ _ _ _
  · exact requireRange_answer_unwritten s _ _ _ _

theorem execWsrGet_unwritten (n : Nat) : Ensures (UnwrittenOnError s) (execWsrGet n s) := by
  unfold execWsrGet
  split
  · exact answer_unwritten s _ _
  · exact raise_unwritten s _

theorem execWsrSet_unwritten (n v : Nat) : Ensures (UnwrittenOnError s) (execWsrSet n v s) := by
  unfold execWsrSet
  split
  · exact raise_unwritten s _
  · exact rndGuard_answer_unwritten s _ _ _ _ _

theorem execFlagGet_unwritten (f : Nat) : Ensures (UnwrittenOnError s) (execFlagGet f s) := by
  unfold execFlagGet
  split
  · exact answer_unwritten s _ _
  · exact raise_unwritten s _

theorem execFlagSet_unwritten (f : Nat) (b : Bool) : Ensures (UnwrittenOnError s) (execFlagSet f b s) := by
  unfold execFlagSet
  split
  · exact answer_unwritten s _ _
  · exact raise_unwritten s _

theorem execImemFetch_unwritten (a : Nat) : Ensures (UnwrittenOnError s) (execImemFetch a s) := by
  unfold execImemFetch
  split
  · exact answer_unwritten s _ _
  · exact raise_unwritten s _

theorem execBpToggle_unwritten (addr passes : Nat) : Ensures (UnwrittenOnError s) (execBpToggle addr passes s) := by
  unfold execBpToggle
  split
  · exact answer_unwritten s _ _
  · split
    · exact raise_unwritten s _
    · exact answer_unwritten s _ _

theorem execFbArm_unwritten (cond : FbCond) : Ensures (UnwrittenOnError s) (execFbArm cond s) := by
  unfold execFbArm
  split
  · exact answer_unwritten s _ _
  · exact raise_unwritten s _

end

/-- Family 0 by its purity, then a case for each shape of meaning. -/
theorem exec_unwritten {i : Instr} {s : State} (h : i ≠ .step) (hcs : s.cs.length ≤ 16) :
    Ensures (UnwrittenOnError s) (exec i s) := by
  have hs := unwrittenOnError_setResponse s
  by_cases hi : isAlu i = true
  · obtain ⟨p, hp⟩ := wideAluIsPure i hi
    rw [hp s]
    exact hs p
  cases i <;> simp only [exec]
  case rfGet => exact ensures_withTarget hs fun _ => ensures_report hs
  case rfSet id v g => exact execRfSet_unwritten s id v g
  case rfGetLimb | rfGetHLimb | rfGetHWord | rfGetQWord => exact ensures_readPart hs _ _ _ _ _ _
  case rfSetLimb | rfSetHLimb | rfSetHWord | rfSetQWord => exact writePart_unwritten s _ _ _ _ _ _ _ _
  case csrGet n => exact execCsrGet_unwritten s n
  case csrSet n x => exact execCsrSet_unwritten s n x
  case wsrGet n => exact execWsrGet_unwritten s n
  case wsrSet n v => exact execWsrSet_unwritten s n v
  case gprInc | gprIncWb => exact stepGpr_unwritten hcs _ _
  case flagGet f => exact execFlagGet_unwritten s f
  case flagSet f b => exact execFlagSet_unwritten s f b
  case flagSetP | flagSetW | flagSetXW | flagSetZml | flagSetXZml | flagSetCm | flagSetXCm | flagSetL | flagSetXL =>
    exact requireRange_answer_unwritten s _ _ _ _
  case dmemGet | dmemGetLimb => exact ensures_requireIndex hs fun _ => ensures_report hs
  case dmemSet | dmemSetLimb =>
    exact ensures_requireIndex hs fun _ => requireRange_answer_unwritten s _ _ _ _
  case imemFetch a => exact execImemFetch_unwritten s a
  case gprGet | gprSet | loopPush | loopDec | loopPop | loopTopEnd | loopTopStart | callPush | callPop =>
    exact settle_unwritten s _
  case bpToggle addr passes => exact execBpToggle_unwritten s addr passes
  case fbArm cond => exact execFbArm_unwritten s cond
  case flagGetP | bpEval | fbEval | finish | reset | clearRegs => exact answer_unwritten s _ _
  case step => exact absurd rfl h
  all_goals exact absurd rfl hi

/-- Settles O54: `exec_unwritten`, of the state that the operation answers with. -/
theorem errorsWriteNothing : Obligations.ErrorsWriteNothing :=
  fun _ _ _ hi hcs ht => (exec_unwritten hi hcs).of_next ht

end Sys2Proof.Machine
end
